-- ==== Sys2Proof/Word.lean ====
section
/-! DEFINITION. The word types of the HD2610: the bytes of the line and the multi-byte fields built from them. -/

namespace Sys2Proof

/-- One data byte of the line (R1), and every 8-bit field. -/
abbrev Byte := BitVec 8

/-- A 16-bit field: topic tag, generation, age, slot count, frame check. -/
abbrev Half := BitVec 16

/-- A 32-bit field: timestamp, hit count, statistics counter. -/
abbrev Wide := BitVec 32

end Sys2Proof
end

