-- ==== Sys2Proof/Syntax.lean ====
section
/-! DEFINITION. The commands of the block: one constructor per row of spec/opcode_table.json, in the table's order. The table
names no operands; an operand here is the datum the event itself carries [log 5]. -/

namespace Sys2Proof

/-- The two line ports (00_scope.md). -/
inductive Port where
  | a
  | b
deriving DecidableEq, Repr

/-- What the agent knows of an MGMT frame beside its payload (R134): the arrival port, the header's src and seq, and whether
it is a broadcast copy (dest 255, forwarded) or a consumed request. -/
structure Envelope where
  port : Port
  src  : Byte
  seq  : Byte
  copy : Bool
deriving DecidableEq, Repr

/-- The operations and events of the part. A request row is the GOOD end, at the agent, of an MGMT frame whose first payload
byte is the row's request code (R182) and whose further payload bytes are `params`; the two SLOT-READ and the two STATS-READ
rows fix the selection byte, so they carry the slot byte and the group byte alone. -/
inductive Instr where
  | resetAssert
  | resetRelease (straps : BitVec 2)
  | signalPresent (p : Port)
  | lossOfSignal (p : Port)
  | receiveSof (p : Port)
  | receiveDataByte (p : Port) (b : Byte)
  | receiveEof (p : Port)
  | receiveAbort (p : Port)
  | receiveIdle (p : Port)
  | codeError (p : Port)
  | coolDownExpiry (p : Port)
  | joinSettleExpiry
  | throughFrameStart (p : Port)
  | transmitSymbol (p : Port)
  | moveOutAnswer (p : Port)
  | moveOutMreply (p : Port)
  | moveOutNotice (p : Port)
  | moveOutAssign (p : Port)
  | moveOutBeacon (p : Port)
  | tick1ms
  | queueAgeOut (p : Port)
  | beaconExpiry (n : Fin 32)
  | tick10ms
  | holdTimerExpiry (n : Fin 32)
  | noticeRepeatExpiry
  | tick100ms
  | leaseExpiry
  | bankCopyAdvance
  | bankCopyComplete
  | ident (e : Envelope) (params : List Byte)
  | claim (e : Envelope) (params : List Byte)
  | renounce (e : Envelope) (params : List Byte)
  | settingsRead (e : Envelope) (params : List Byte)
  | settingsWrite (e : Envelope) (params : List Byte)
  | entryRead (e : Envelope) (params : List Byte)
  | entryWrite (e : Envelope) (params : List Byte)
  | entryClear (e : Envelope) (params : List Byte)
  | bankCopy (e : Envelope) (params : List Byte)
  | bankSwap (e : Envelope) (params : List Byte)
  | slotSetup (e : Envelope) (params : List Byte)
  | slotLoad (e : Envelope) (params : List Byte)
  | slotReadWithoutHold (e : Envelope) (slot : Byte)
  | slotReadWithHold (e : Envelope) (slot : Byte)
  | slotRelease (e : Envelope) (params : List Byte)
  | noticeAck (e : Envelope) (params : List Byte)
  | statsReadWithoutClear (e : Envelope) (group : Byte)
  | statsReadWithClear (e : Envelope) (group : Byte)
  | restart (e : Envelope) (params : List Byte)
  | unknownRequest (e : Envelope) (code : Byte) (params : List Byte)
  | assign (p : Port) (n : Byte)
  | restartBegin
  | timestampCounterAdvance
deriving DecidableEq, Repr

end Sys2Proof
end

