-- ==== Sys2Proof/Config.lean ====
section
/-! DEFINITION. What an implementation fixes and the manual does not: the free choices. No constant here has a body, so no
proof can rest on a particular choice. -/

namespace Sys2Proof.Config

/-- FREE VALUE [log 11]: the rank by which beacon timers that expire at ONE 1 ms tick take their turns (R131 orders only the
two ports of one slot). The first argument is the model's own counter of free choices, the second the slot number. -/
opaque beaconRank : Nat → Nat → Nat

/-- FREE VALUE [log 12]: at a 1 ms tick, whether the beacon expiries come before the settle expiry and the age-out, or after
(R131 gives either order of an age-out and an expiry of one slot's entry; R34 leaves events that fall together open). -/
opaque beaconsFirst : Nat → Bool

end Sys2Proof.Config
end

