-- ==== Sys2Proof/Machine/State.lean ====
section
/-! DEFINITION. The state of the HD2610 as plain data, every piece the manual gives it, and its values after a full reset.
Types are shaped so that what the manual excludes cannot be written: an EMPTY capture slot has no record and no overrun
(R84, R87), only a HELD one has a pending cell and a lapse timer (R84), an absent owner has no lease (R141). -/

namespace Sys2Proof.Machine

/-- One value for each line port. -/
structure PerPort (α : Type) where
  a : α
  b : α
deriving DecidableEq, Repr

/-- The two directions of relay: AB is received on Port A and sent on Port B, BA the reverse (R9, R51). -/
inductive Dir where
  | ab
  | ba
deriving DecidableEq, Repr

/-- One value for each direction. -/
structure PerDir (α : Type) where
  ab : α
  ba : α
deriving DecidableEq, Repr

/-! ## The line -/

/-- R1: the five symbols of the line. -/
inductive Symbol where
  | data (b : Byte)
  | idle
  | sof
  | eof
  | abort
deriving DecidableEq, Repr

/-- R1: what one byte time delivers to a receiver: a symbol, or a code error. -/
inductive LineEvent where
  | symbol (x : Symbol)
  | codeError
deriving DecidableEq, Repr

/-- R3: the frame kinds; every code without a kind is `unknown`. -/
inductive Kind where
  | data
  | poll
  | answer
  | mgmt
  | mreply
  | assign
  | unknown
deriving DecidableEq, Repr

/-- R10, R9: the class of a frame's end. -/
inductive EndClass where
  | good
  | badCheck
  | runt
  | length
  | aborted
deriving DecidableEq, Repr

/-- R181: the 8 header bytes of a frame, kind and flags together in the first. -/
structure Header where
  kindFlags : Byte
  dest      : Byte
  src       : Byte
  seq       : Byte
  tag       : Half
  len       : Byte
  aux       : Byte
deriving DecidableEq, Repr

/-! ## Ports and receivers -/

/-- R17: the port states. -/
inductive PortState where
  | down
  | syncing
  | synced
  | fault
deriving DecidableEq, Repr

/-- What a port holds beside its receiver (section 2.1); its bucket limit stands in the settings record. `coolDown` is the
number of 1 ms ticks left while the cool-down timer runs (R22). -/
structure PortBlock where
  state    : PortState
  syncIdle : Nat
  bucket   : Nat
  coolDown : Option Nat
deriving DecidableEq, Repr

/-- R8: the delimiter states. -/
inductive Delim where
  | gap
  | header
  | body
deriving DecidableEq, Repr

/-- What a receiver holds (section 1.4). `checkBytes` are the check bytes received so far, which R7 compares at EOF. -/
structure Receiver where
  delim      : Delim
  gapCount   : Nat
  byteCount  : Nat
  header     : List Byte
  check      : Half
  checkBytes : List Byte
  sofTime    : Wide
  shortGap   : Bool
deriving DecidableEq, Repr

/-- R24: the relay states. -/
inductive RelayState where
  | bypass
  | joining
  | relay
  | fallback
deriving DecidableEq, Repr

/-! ## Relay paths -/

/-- R43: the end mark of a through-frame. -/
inductive EndMark where
  | eof
  | abort
deriving DecidableEq, Repr

/-- One through-frame in a detour store: its data bytes not yet sent, oldest first, and its end mark once it has ended. Each
byte and the mark is one place (R35). -/
structure StoredFrame where
  bytes : List Byte
  mark  : Option EndMark
deriving DecidableEq, Repr

/-- R36: the outcomes of a header. `answered reserved` says whether the poll placed a reservation (R107) or was coalesced
(R108): R45 treats their ends differently. -/
inductive Verdict where
  | forward
  | drop
  | take
  | answered (reserved : Bool)
  | consumeAgent
  | consumeAssign
deriving DecidableEq, Repr

/-- R40: the entry index of a decision record: an entry, DEFAULT, or NONE when no search was made. -/
inductive EntryRef where
  | entry (i : Fin 64)
  | default
  | none
deriving DecidableEq, Repr

/-- R40: the commit a decision names, with the slot and the slot's setup generation as it stood at the header. -/
inductive Commit where
  | none
  | capture (slot : Fin 32) (gen : Byte)
  | learn (slot : Fin 32) (gen : Byte)
deriving DecidableEq, Repr

/-- R40: the decision record. `slot` is the slot and generation of an ANSWERED poll; a named commit carries its own. -/
structure Decision where
  verdict   : Verdict
  entry     : EntryRef
  commit    : Commit
  slot      : Option (Fin 32 × Byte)
  agentCopy : Bool
deriving DecidableEq, Repr

/-- R35, R40: the header hold, the decision record and the commit buffer of the frame now arriving: present together or
absent together. The arrival port is the port of the path's direction. -/
structure InFlight where
  header   : Header
  sofTime  : Wide
  decision : Decision
  buffer   : List Byte
deriving DecidableEq, Repr

/-- R48: the output state. `between n` is GAP while the output gap count n is below 2 and FREE at 2; `through` and `injection`
say whether the SOF has been sent; an injection keeps its data bytes not yet sent (fixed at move-out, R15) and whether it is
the reply a restart waits for (R169); `closing` is the byte time in which R28 or R32 sends the ABORT of a frame cut short. -/
inductive Tx where
  | between (gapCount : Nat)
  | through (sofSent : Bool)
  | injection (sofSent : Bool) (rest : List Byte) (named : Bool)
  | closing (named : Bool)
deriving DecidableEq, Repr

/-- What a relay path holds (section 3.1). `tx` and `line` belong to the transmitter of its output port: `line` is the symbol
sent in the last byte time, none where the transmitter was silent in it (R14, R24). -/
structure RelayPath where
  store     : List StoredFrame
  flight    : Option InFlight
  highWater : Nat
  tx        : Tx
  line      : Option Symbol
deriving DecidableEq, Repr

/-! ## The match engine -/

/-- R56: the arrival port an entry applies to. -/
inductive EntryPorts where
  | a
  | b
  | either
deriving DecidableEq, Repr

/-- R56: what the relay path does with a matching frame. -/
inductive Action where
  | pass
  | drop
  | capture
  | take
  | answer
  | learn
deriving DecidableEq, Repr

/-- R56: a match table entry. The kinds set is three flags: DATA, POLL, ANSWER. -/
structure Entry where
  valid   : Bool
  ports   : EntryPorts
  kData   : Bool
  kPoll   : Bool
  kAnswer : Bool
  tag     : Half
  mask    : Half
  src     : Option Byte
  dest    : Option Byte
  action  : Action
  slot    : Option (Fin 32)
  hits    : Wide
deriving DecidableEq, Repr

/-- R55: the two bank numbers. -/
inductive BankId where
  | zero
  | one
deriving DecidableEq, Repr

/-- R55: a bank of 64 entries. -/
abbrev Bank := Vector Entry 64

/-- R67: the copy state; in RUNNING the copy position and the request being served. -/
inductive CopyState where
  | idle
  | running (pos : Nat) (port : Port) (manager : Byte) (seq : Byte)
deriving DecidableEq, Repr

/-- What the match engine holds (chapter 4). -/
structure MatchEngine where
  bank0      : Bank
  bank1      : Bank
  selector   : BankId
  stagingGen : Half
  incomplete : Bool
  copy       : CopyState
deriving DecidableEq, Repr

/-! ## The slot store -/

/-- R85: a captured record; its payload has as many bytes as the header's len. -/
structure CapturedRecord where
  header  : Header
  payload : List Byte
  sofTime : Wide
  port    : Port
  entry   : Fin 64
deriving DecidableEq, Repr

/-- R84: what a slot of kind CAPTURE holds. `lapse` is the number of 10 ms ticks left of the hold's lapse timer (R92). -/
inductive CaptureSlot where
  | empty
  | full (content : CapturedRecord) (overrun : Bool)
  | held (content : CapturedRecord) (overrun : Bool) (pending : Option CapturedRecord) (lapse : Nat)
deriving DecidableEq, Repr

/-- R100: the payload source of an answer slot, with the payload it has. -/
inductive AnswerPayload where
  | none
  | loaded (payload : List Byte)
  | learned (payload : List Byte)
deriving DecidableEq, Repr

/-- R100: what a slot of kind ANSWER holds; max-age and age in ms. -/
structure AnswerSlot where
  maxAge  : Half
  content : AnswerPayload
  age     : Half
deriving DecidableEq, Repr

/-- R128: the ports of a beacon slot. -/
inductive BeaconPorts where
  | a
  | b
  | both
deriving DecidableEq, Repr

/-- R128: what a slot of kind BEACON holds. `timer` is the number of 1 ms ticks to the next expiry while RUNNING (R130). -/
structure BeaconSlot where
  tag      : Half
  dest     : Byte
  ports    : BeaconPorts
  interval : Half
  payload  : List Byte
  seq      : Byte
  timer    : Option Nat
deriving DecidableEq, Repr

/-- R77: the kind of a slot with the fields of that kind. -/
inductive SlotBody where
  | unused
  | capture (c : CaptureSlot)
  | answer (x : AnswerSlot)
  | beacon (x : BeaconSlot)
deriving DecidableEq, Repr

/-- R77: a slot: its common fields and the fields of its kind. -/
structure Slot where
  notify : Bool
  gen    : Byte
  count  : Half
  body   : SlotBody
deriving DecidableEq, Repr

/-! ## Injection queues -/

/-- R119: a queue entry by source, with the fields present for it. The source fixes the class; only ANSWER has a state
RESERVED. `named` marks the MREPLY a restart waits for (R168). -/
inductive EntryBody where
  | answer (slot : Fin 32) (gen : Byte) (ready : Bool) (src dest seq : Byte) (tag : Half)
  | mreply (dest src seq : Byte) (payload : List Byte) (named : Bool)
  | notice
  | assign (byte : Byte)
  | beacon (slot : Fin 32)
deriving DecidableEq, Repr

/-- R119: the sources of queue entries. -/
inductive Source where
  | answer
  | mreply
  | notice
  | assign
  | beacon
deriving DecidableEq, Repr

/-- R119: a queue entry with its enqueue time. -/
structure QEntry where
  body : EntryBody
  time : Wide
deriving DecidableEq, Repr

/-- R118: an injection queue, oldest entry first, and its held place. -/
structure Queue where
  entries : List QEntry
  held    : Bool
deriving DecidableEq, Repr

/-! ## Management agent and notices -/

/-- R141: what a lease's expiry does to the relay state. -/
inductive Policy where
  | keep
  | fallback
deriving DecidableEq, Repr

/-- R141: the ownership record while an owner is present; the lease in units of 100 ms. -/
structure Owner where
  addr   : Byte
  lease  : Nat
  policy : Policy
  port   : Port
deriving DecidableEq, Repr

/-- R147: a reply cache entry; no reply is the mark IN-PROGRESS. -/
structure CacheEntry where
  manager : Byte
  seq     : Byte
  reply   : Option (List Byte)
deriving DecidableEq, Repr

/-- R134: what the agent is receiving: a request (consumed or a broadcast copy) or an enumeration frame. -/
inductive InboxKind where
  | request (copy : Bool)
  | assign
deriving DecidableEq, Repr

/-- R134: a frame the agent is receiving, its payload bytes as far as they have arrived. -/
structure Inbox where
  kind    : InboxKind
  src     : Byte
  seq     : Byte
  payload : List Byte
deriving DecidableEq, Repr

/-- R172: the notice unit: bit n of `pending` and of `marks` is the event of slot n, bit 32 port-A-change, bit 33
port-B-change. `repeatTimer` is the number of 10 ms ticks left while RUNNING (R175). -/
structure NoticeUnit where
  pending     : BitVec 34
  marks       : BitVec 34
  number      : Byte
  repeatTimer : Option Nat
deriving DecidableEq, Repr

/-! ## Settings and statistics -/

/-- R62: a default action. -/
inductive DefaultAction where
  | pass
  | drop
deriving DecidableEq, Repr

/-- R155: the settings record. -/
structure Settings where
  defaults    : PerDir DefaultAction
  bucketLimit : PerPort Byte
  holdTime    : Byte
  repeatTime  : Byte
  ageLimit    : Half
deriving DecidableEq, Repr

/-- R178: the counters of a PORT group. -/
structure PortCounters where
  good          : Wide
  badCheck      : Wide
  runt          : Wide
  length        : Wide
  aborted       : Wide
  codeErrors    : Wide
  faultsEntered : Wide
deriving DecidableEq, Repr

/-- R53: the counters of a DIR group, but for the high-water mark, which stands in the relay path. -/
structure DirCounters where
  forwarded      : Wide
  poisoned       : Wide
  droppedEntry   : Wide
  droppedDefault : Wide
  droppedLength  : Wide
  taken          : Wide
  consumedAgent  : Wide
  unknownKind    : Wide
  slotMismatch   : Wide
  injectedAnswer : Wide
  injectedReply  : Wide
  injectedBeacon : Wide
  withdrawn      : Wide
  staleAged      : Wide
deriving DecidableEq, Repr

/-- R116: the counters of the PROXY group. -/
structure ProxyCounters where
  answered          : Wide
  coalesced         : Wide
  missNoproxy       : Wide
  missNoStation     : Wide
  missEmpty         : Wide
  missStale         : Wide
  missBusy          : Wide
  missQueueFull     : Wide
  answerLostBadPoll : Wide
  learns            : Wide
deriving DecidableEq, Repr

/-- R179: the counters of the AGENT group. -/
structure AgentCounters where
  executed        : Wide
  refused         : Wide
  duplicates      : Wide
  droppedNoRoom   : Wide
  droppedBadSrc   : Wide
  discardedBypass : Wide
deriving DecidableEq, Repr

/-! ## The time base -/

/-- R34: the ticks that the divider has brought and that have not yet been taken [log 7]. -/
structure DueTicks where
  one     : Bool
  ten     : Bool
  hundred : Bool
deriving DecidableEq, Repr

/-! ## Outcomes that stop -/

/-- No command of this block faults: the manual gives every event an effect, and FAULT is a port state, not a stop [log 28]. -/
inductive Fault where
deriving DecidableEq, Repr

/-- Why a command has no meaning. -/
inductive Refusal where
  /-- Raised by an arm of the dispatch whose command is not modelled yet; safe. No arm raises it. -/
  | notModelled (mnemonic : String)
deriving DecidableEq, Repr

/-! ## The whole -/

/-- The state of the part. `pending` is the queue of commands that wait, first in, first out; `freeCount` is the model's own
counter of free choices taken. -/
structure State where
  resetPin       : Bool
  bypassPin      : Bool
  rate           : BitVec 2
  signal         : PerPort Bool
  timestamp      : Wide
  divider        : Nat
  due            : DueTicks
  ports          : PerPort PortBlock
  rx             : PerPort Receiver
  relay          : RelayState
  latch          : Bool
  settle         : Option Nat
  paths          : PerDir RelayPath
  engine         : MatchEngine
  slots          : Vector Slot 32
  holdList       : List (Fin 32)
  queues         : PerPort Queue
  ownAddr        : Byte
  owner          : Option Owner
  cache          : List CacheEntry
  inbox          : PerPort (Option Inbox)
  restartPending : Bool
  notice         : NoticeUnit
  settings       : Settings
  portStats      : PerPort PortCounters
  dirStats       : PerDir DirCounters
  proxyStats     : ProxyCounters
  agentStats     : AgentCounters
  freeCount      : Nat
  pending        : List Instr
deriving DecidableEq, Repr

/-! ## Values after a full reset -/

/-- R23. -/
def PortBlock.reset : PortBlock := { state := .down, syncIdle := 0, bucket := 0, coolDown := none }

/-- R12. -/
def Receiver.reset : Receiver :=
  { delim := .gap, gapCount := 2, byteCount := 0, header := [], check := 0xFFFF, checkBytes := [], sofTime := 0,
    shortGap := false }

/-- R54, R48. -/
def RelayPath.reset : RelayPath :=
  { store := [], flight := none, highWater := 0, tx := .between 2, line := none }

/-- R56: a cleared entry. -/
def Entry.cleared : Entry :=
  { valid := false, ports := .either, kData := false, kPoll := false, kAnswer := false, tag := 0, mask := 0, src := none,
    dest := none, action := .pass, slot := none, hits := 0 }

/-- R76. -/
def MatchEngine.reset : MatchEngine :=
  { bank0 := Vector.replicate 64 Entry.cleared, bank1 := Vector.replicate 64 Entry.cleared, selector := .zero,
    stagingGen := 0, incomplete := false, copy := .idle }

/-- R99. -/
def Slot.reset : Slot := { notify := false, gen := 0, count := 0, body := .unused }

/-- R172. -/
def NoticeUnit.reset : NoticeUnit := { pending := 0, marks := 0, number := 0, repeatTimer := none }

/-- R155. -/
def Settings.reset : Settings :=
  { defaults := ⟨.pass, .pass⟩, bucketLimit := ⟨16, 16⟩, holdTime := 50, repeatTime := 10, ageLimit := 500 }

/-- R177. -/
def PortCounters.zero : PortCounters :=
  { good := 0, badCheck := 0, runt := 0, length := 0, aborted := 0, codeErrors := 0, faultsEntered := 0 }

/-- R177. -/
def DirCounters.zero : DirCounters :=
  { forwarded := 0, poisoned := 0, droppedEntry := 0, droppedDefault := 0, droppedLength := 0, taken := 0,
    consumedAgent := 0, unknownKind := 0, slotMismatch := 0, injectedAnswer := 0, injectedReply := 0, injectedBeacon := 0,
    withdrawn := 0, staleAged := 0 }

/-- R177. -/
def ProxyCounters.zero : ProxyCounters :=
  { answered := 0, coalesced := 0, missNoproxy := 0, missNoStation := 0, missEmpty := 0, missStale := 0, missBusy := 0,
    missQueueFull := 0, answerLostBadPoll := 0, learns := 0 }

/-- R177. -/
def AgentCounters.zero : AgentCounters :=
  { executed := 0, refused := 0, duplicates := 0, droppedNoRoom := 0, droppedBadSrc := 0, discardedBypass := 0 }

/-- R34: no tick falls before 1000 µs after the release. -/
def DueTicks.none : DueTicks := { one := false, ten := false, hundred := false }

/-- The part at the assertion of RESET or at power-on (R32): every block at its full-reset value, RESET still asserted, so
that RESET_RELEASE follows [log 9]. The straps and the detectors stand at the values log 8 names. -/
def State.reset : State :=
  { resetPin := true, bypassPin := true, rate := 0, signal := ⟨false, false⟩, timestamp := 0, divider := 0, due := .none,
    ports := ⟨.reset, .reset⟩, rx := ⟨.reset, .reset⟩, relay := .bypass, latch := false, settle := none,
    paths := ⟨.reset, .reset⟩, engine := .reset, slots := Vector.replicate 32 Slot.reset, holdList := [],
    queues := ⟨⟨[], false⟩, ⟨[], false⟩⟩, ownAddr := 0, owner := none, cache := [], inbox := ⟨none, none⟩,
    restartPending := false, notice := .reset, settings := .reset, portStats := ⟨.zero, .zero⟩, dirStats := ⟨.zero, .zero⟩,
    proxyStats := .zero, agentStats := .zero, freeCount := 0, pending := [] }

end Sys2Proof.Machine
end

