-- ==== Sys2Proof/Machine/Operands.lean ====
section
/-! DEFINITION. Reading and writing the operand forms of the block: ports and directions, multi-byte fields (high byte first,
R181), the frame header, the value encodings of R183 and the record layouts of R184 and R185. -/

namespace Sys2Proof.Machine

/-! ## Ports and directions -/

/-- The port other than the given one. -/
def otherPort : Port → Port
  | .a => .b
  | .b => .a

/-- R9: the direction of frames received on a port. -/
def dirIn : Port → Dir
  | .a => .ab
  | .b => .ba

/-- R51: the direction of frames sent on a port. -/
def dirOut : Port → Dir
  | .a => .ba
  | .b => .ab

/-- The value of a port. -/
def PerPort.get {α : Type} (x : PerPort α) : Port → α
  | .a => x.a
  | .b => x.b

/-- Replace the value of a port. -/
def PerPort.set {α : Type} (x : PerPort α) (p : Port) (v : α) : PerPort α :=
  match p with
  | .a => { x with a := v }
  | .b => { x with b := v }

/-- The value of a direction. -/
def PerDir.get {α : Type} (x : PerDir α) : Dir → α
  | .ab => x.ab
  | .ba => x.ba

/-- Replace the value of a direction. -/
def PerDir.set {α : Type} (x : PerDir α) (d : Dir) (v : α) : PerDir α :=
  match d with
  | .ab => { x with ab := v }
  | .ba => { x with ba := v }

/-- The slot numbers in ascending order. -/
def allSlots : List (Fin 32) := List.finRange 32

/-- The bank indexes in ascending order. -/
def allEntries : List (Fin 64) := List.finRange 64

/-- A function on every item of a vector, by its list. -/
def mapVec {α : Type} {n : Nat} (f : α → α) (v : Vector α n) : Vector α n :=
  ⟨⟨v.toList.map f⟩, by simp⟩

/-! ## Multi-byte fields, high byte first (R181) -/

/-- Two bytes of a 16-bit field. -/
def bytes16 (x : Half) : List Byte := [x.extractLsb' 8 8, x.extractLsb' 0 8]

/-- Four bytes of a 32-bit field. -/
def bytes32 (x : Wide) : List Byte :=
  [x.extractLsb' 24 8, x.extractLsb' 16 8, x.extractLsb' 8 8, x.extractLsb' 0 8]

/-- The 16-bit field of two bytes. -/
def half (hi lo : Byte) : Half := hi ++ lo

/-- R183: 01H for yes, 00H for no. -/
def flagByte (x : Bool) : Byte := if x then 1 else 0

/-- R183: a slot number given as a byte; none above 31. -/
def slotOfByte (b : Byte) : Option (Fin 32) := if h : b.toNat < 32 then some ⟨b.toNat, h⟩ else none

/-- A slot number as a byte. -/
def slotByte (n : Fin 32) : Byte := BitVec.ofNat 8 n.val

/-- R59: a bank index given as a byte; none above 63. -/
def indexOfByte (b : Byte) : Option (Fin 64) := if h : b.toNat < 64 then some ⟨b.toNat, h⟩ else none

/-- A bank index as a byte. -/
def indexByte (i : Fin 64) : Byte := BitVec.ofNat 8 i.val

/-! ## The frame header (R181, R3) -/

/-- R3: the kind of a frame, bits 7..4 of its first byte. -/
def kindOf (b : Byte) : Kind :=
  if b.extractLsb' 4 4 = 1 then .data
  else if b.extractLsb' 4 4 = 2 then .poll
  else if b.extractLsb' 4 4 = 3 then .answer
  else if b.extractLsb' 4 4 = 8 then .mgmt
  else if b.extractLsb' 4 4 = 9 then .mreply
  else if b.extractLsb' 4 4 = 10 then .assign
  else .unknown

/-- R4, R181: NOPROXY is bit 0 of the first byte. -/
def noproxy (h : Header) : Bool := h.kindFlags.getLsbD 0

/-- R3: the payload lengths the part accepts for a kind, least and greatest. -/
def lenRange : Kind → Nat × Nat
  | .data => (0, 32)
  | .poll => (0, 32)
  | .answer => (0, 32)
  | .mgmt => (1, 60)
  | .mreply => (2, 60)
  | .assign => (1, 1)
  | .unknown => (0, 60)

/-- R9: whether len lies in the range R3 gives for the header's kind. -/
def lenAccepted (h : Header) : Bool :=
  decide ((lenRange (kindOf h.kindFlags)).1 ≤ h.len.toNat ∧ h.len.toNat ≤ (lenRange (kindOf h.kindFlags)).2)

/-- R181: the header of 8 header bytes (fewer read as zeros; a receiver reads it at the eighth). -/
def headerOf (bs : List Byte) : Header :=
  { kindFlags := bs.getD 0 0, dest := bs.getD 1 0, src := bs.getD 2 0, seq := bs.getD 3 0,
    tag := half (bs.getD 4 0) (bs.getD 5 0), len := bs.getD 6 0, aux := bs.getD 7 0 }

/-- R181: the 8 bytes of a header. -/
def headerBytes (h : Header) : List Byte :=
  [h.kindFlags, h.dest, h.src, h.seq] ++ bytes16 h.tag ++ [h.len, h.aux]

/-! ## Value encodings (R183) -/

/-- R183: policy. -/
def policyOf (b : Byte) : Option Policy :=
  if b = 0 then some .keep else if b = 1 then some .fallback else none

/-- R183. -/
def policyByte : Policy → Byte
  | .keep => 0
  | .fallback => 1

/-- R183: default action. -/
def defaultOf (b : Byte) : Option DefaultAction :=
  if b = 0 then some .pass else if b = 1 then some .drop else none

/-- R183. -/
def defaultByte : DefaultAction → Byte
  | .pass => 0
  | .drop => 1

/-- R183: entry ports. -/
def entryPortsOf (b : Byte) : Option EntryPorts :=
  if b = 0 then some .a else if b = 1 then some .b else if b = 2 then some .either else none

/-- R183. -/
def entryPortsByte : EntryPorts → Byte
  | .a => 0
  | .b => 1
  | .either => 2

/-- R183: action. -/
def actionOf (b : Byte) : Option Action :=
  if b = 0 then some .pass else if b = 1 then some .drop else if b = 2 then some .capture
  else if b = 3 then some .take else if b = 4 then some .answer else if b = 5 then some .learn else none

/-- R183. -/
def actionByte : Action → Byte
  | .pass => 0
  | .drop => 1
  | .capture => 2
  | .take => 3
  | .answer => 4
  | .learn => 5

/-- R183: beacon ports. -/
def beaconPortsOf (b : Byte) : Option BeaconPorts :=
  if b = 0 then some .a else if b = 1 then some .b else if b = 2 then some .both else none

/-- R183. -/
def beaconPortsByte : BeaconPorts → Byte
  | .a => 0
  | .b => 1
  | .both => 2

/-- R183: slot kind. -/
def kindByte : SlotBody → Byte
  | .unused => 0
  | .capture _ => 1
  | .answer _ => 2
  | .beacon _ => 3

/-- R183: capture state. -/
def captureByte : CaptureSlot → Byte
  | .empty => 0
  | .full _ _ => 1
  | .held _ _ _ _ => 2

/-- R183: payload source. -/
def sourceByte : AnswerPayload → Byte
  | .none => 0
  | .loaded _ => 1
  | .learned _ => 2

/-- R100: the payload of an answer slot, empty while the source is NONE. -/
def answerBytes : AnswerPayload → List Byte
  | .none => []
  | .loaded p => p
  | .learned p => p

/-- R183: port state. -/
def portStateByte : PortState → Byte
  | .down => 0
  | .syncing => 1
  | .synced => 2
  | .fault => 3

/-- R183: relay state. -/
def relayStateByte : RelayState → Byte
  | .bypass => 0
  | .joining => 1
  | .relay => 2
  | .fallback => 3

/-- R183: arrival port. -/
def portByte : Port → Byte
  | .a => 0
  | .b => 1

/-- R184: active-bank selector. -/
def bankByte : BankId → Byte
  | .zero => 0
  | .one => 1

/-- R183: owner address, 00H when absent. -/
def ownerByte (o : Option Owner) : Byte :=
  match o with
  | some x => x.addr
  | none => 0

/-- R141: the remaining lease, 0 while the owner is absent. -/
def leaseOf (o : Option Owner) : Half :=
  match o with
  | some x => BitVec.ofNat 16 x.lease
  | none => 0

/-- R141: the policy, KEEP while the owner is absent. -/
def policyInForce (o : Option Owner) : Policy :=
  match o with
  | some x => x.policy
  | none => .keep

/-- R183: the 5 bytes of an event set, bits 34..39 sent as 0. -/
def eventBytes (x : BitVec 34) : List Byte :=
  [(x.extractLsb' 32 2).setWidth 8, x.extractLsb' 24 8, x.extractLsb' 16 8, x.extractLsb' 8 8, x.extractLsb' 0 8]

/-- R183: the number an event set is read as. -/
def eventNumber (b0 b1 b2 b3 b4 : Byte) : BitVec 40 := b0 ++ b1 ++ b2 ++ b3 ++ b4

/-! ## Records (R184, R185) -/

/-- R184, R183: the 12 bytes of an entry record. -/
def entryBytes (e : Entry) : List Byte :=
  [flagByte e.valid, entryPortsByte e.ports,
   (if e.kData then 1 else 0) ||| (if e.kPoll then 2 else 0) ||| (if e.kAnswer then 4 else 0),
   (if e.src.isSome then 1 else 0) ||| (if e.dest.isSome then 2 else 0) ||| (if e.slot.isSome then 4 else 0)]
  ++ bytes16 e.tag ++ bytes16 e.mask
  ++ [e.src.getD 0, e.dest.getD 0, actionByte e.action, match e.slot with | some n => slotByte n | none => 0]

/-- R184: the 8 bytes of the settings record. -/
def settingsBytes (x : Settings) : List Byte :=
  [defaultByte x.defaults.ab, defaultByte x.defaults.ba, x.bucketLimit.a, x.bucketLimit.b, x.holdTime, x.repeatTime]
  ++ bytes16 x.ageLimit

/-- R185: the 14 + len bytes of a captured record. -/
def recordBytes (r : CapturedRecord) : List Byte :=
  headerBytes r.header ++ bytes32 r.sofTime ++ [portByte r.port, indexByte r.entry] ++ r.payload

/-- R186: the counters of a PORT group in order. -/
def portCounterBytes (c : PortCounters) : List Byte :=
  bytes32 c.good ++ bytes32 c.badCheck ++ bytes32 c.runt ++ bytes32 c.length ++ bytes32 c.aborted ++ bytes32 c.codeErrors
  ++ bytes32 c.faultsEntered

/-- R186: the counters of a DIR group in order, the high-water mark last. -/
def dirCounterBytes (c : DirCounters) (highWater : Nat) : List Byte :=
  bytes32 c.forwarded ++ bytes32 c.poisoned ++ bytes32 c.droppedEntry ++ bytes32 c.droppedDefault
  ++ bytes32 c.droppedLength ++ bytes32 c.taken ++ bytes32 c.consumedAgent ++ bytes32 c.unknownKind
  ++ bytes32 c.slotMismatch ++ bytes32 c.injectedAnswer ++ bytes32 c.injectedReply ++ bytes32 c.injectedBeacon
  ++ bytes32 c.withdrawn ++ bytes32 c.staleAged ++ [BitVec.ofNat 8 highWater]

/-- R186: the counters of the PROXY group in order. -/
def proxyCounterBytes (c : ProxyCounters) : List Byte :=
  bytes32 c.answered ++ bytes32 c.coalesced ++ bytes32 c.missNoproxy ++ bytes32 c.missNoStation ++ bytes32 c.missEmpty
  ++ bytes32 c.missStale ++ bytes32 c.missBusy ++ bytes32 c.missQueueFull ++ bytes32 c.answerLostBadPoll ++ bytes32 c.learns

/-- R186: the counters of the AGENT group in order. -/
def agentCounterBytes (c : AgentCounters) : List Byte :=
  bytes32 c.executed ++ bytes32 c.refused ++ bytes32 c.duplicates ++ bytes32 c.droppedNoRoom ++ bytes32 c.droppedBadSrc
  ++ bytes32 c.discardedBypass

end Sys2Proof.Machine
end

