-- ==== Sys2Proof/Machine/Flags.lean ====
section
/-! DEFINITION. The computed conditions of the block: the frame check (R7), saturation, queue room (R118), freshness (R102),
the detour store's occupancy (R35), the frame a path is in, and the conditions of joining (R26) and of a notice (R173). -/

namespace Sys2Proof.Machine

/-! ## The frame check (R7) -/

/-- R7 steps 3 and 4: one bit into the check register. -/
def checkBit (r : Half) (bit : Bool) : Half :=
  if r.msb != bit then (r <<< 1) ^^^ 0x1021 else r <<< 1

/-- R7 step 2: one byte, most significant bit first. -/
def checkByte (r : Half) (b : Byte) : Half :=
  checkBit (checkBit (checkBit (checkBit (checkBit (checkBit (checkBit (checkBit r
    (b.getLsbD 7)) (b.getLsbD 6)) (b.getLsbD 5)) (b.getLsbD 4)) (b.getLsbD 3)) (b.getLsbD 2)) (b.getLsbD 1)) (b.getLsbD 0)

/-- R7: the check over a list of bytes, from FFFFH. -/
def frameCheck (bs : List Byte) : Half := bs.foldl checkByte 0xFFFF

/-! ## Saturating counts -/

/-- Add to a saturating counter: it stops at its largest value. -/
def satAdd {w : Nat} (x : BitVec w) (n : Nat) : BitVec w := BitVec.ofNat w (min (x.toNat + n) (2 ^ w - 1))

/-- A saturating counter rises by 1. -/
def satInc {w : Nat} (x : BitVec w) : BitVec w := satAdd x 1

/-! ## Queues -/

/-- R118: entries plus 1 for a held place. -/
def Queue.occupancy (q : Queue) : Nat := q.entries.length + (if q.held then 1 else 0)

/-- R118: a queue has room when its occupancy is below 16. -/
def Queue.room (q : Queue) : Bool := decide (q.occupancy < 16)

/-- R119: the slot an entry's slot field names. -/
def EntryBody.slotField : EntryBody → Option (Fin 32)
  | .answer n _ _ _ _ _ _ => some n
  | .mreply _ _ _ _ _ => none
  | .notice => none
  | .assign _ => none
  | .beacon n => some n

/-- R119: the class of an entry, by its source. -/
def EntryBody.cls : EntryBody → Nat
  | .answer _ _ _ _ _ _ _ => 0
  | .mreply _ _ _ _ _ => 1
  | .notice => 1
  | .assign _ => 1
  | .beacon _ => 2

/-- R121: whether an entry is READY; only an ANSWER entry may be RESERVED. -/
def EntryBody.isReady : EntryBody → Bool
  | .answer _ _ r _ _ _ _ => r
  | .mreply _ _ _ _ _ => true
  | .notice => true
  | .assign _ => true
  | .beacon _ => true

/-- R119: the source of an entry. -/
def EntryBody.source : EntryBody → Source
  | .answer _ _ _ _ _ _ _ => .answer
  | .mreply _ _ _ _ _ => .mreply
  | .notice => .notice
  | .assign _ => .assign
  | .beacon _ => .beacon

/-- Whether an entry is of a source. -/
def EntryBody.isFrom (x : Source) (b : EntryBody) : Bool := decide (b.source = x)

/-- The sources R29 withdraws: ANSWER and BEACON, those with a slot field. -/
def EntryBody.hasSlot (b : EntryBody) : Bool := b.slotField.isSome

/-- Whether an entry's slot field names the slot. -/
def EntryBody.names (n : Fin 32) (b : EntryBody) : Bool := decide (b.slotField = some n)

/-- R168: the MREPLY entry a restart waits for. -/
def EntryBody.isNamed : EntryBody → Bool
  | .mreply _ _ _ _ m => m
  | _ => false

/-- R122: take the first item that satisfies a test out of a list. -/
def takeFirst {α : Type} (p : α → Bool) : List α → Option (α × List α)
  | [] => none
  | x :: xs =>
    if p x then some (x, xs)
    else match takeFirst p xs with
      | some (y, ys) => some (y, x :: ys)
      | none => none

/-- R122: the READY entry of the lowest class nearest the oldest end, and the entries without it. -/
def selectEntry (es : List QEntry) : Option (QEntry × List QEntry) :=
  match takeFirst (fun e => e.body.isReady && e.body.cls == 0) es with
  | some x => some x
  | none =>
    match takeFirst (fun e => e.body.isReady && e.body.cls == 1) es with
    | some x => some x
    | none => takeFirst (fun e => e.body.isReady && e.body.cls == 2) es

/-- R123: whether an entry's age at a timestamp exceeds a limit in ms; the age is taken modulo 2^32. -/
def QEntry.overAge (now : Wide) (limit : Half) (e : QEntry) : Bool :=
  decide (limit.toNat * 1000 < (now - e.time).toNat)

/-! ## Detour store -/

/-- R35: the places of a stored frame. -/
def StoredFrame.places (f : StoredFrame) : Nat := f.bytes.length + (if f.mark.isSome then 1 else 0)

/-- R35: the occupancy of a detour store. -/
def occupancy : List StoredFrame → Nat
  | [] => 0
  | f :: fs => f.places + occupancy fs

/-- R35: add a place of data to the newest frame. -/
def pushByte (b : Byte) : List StoredFrame → List StoredFrame
  | [] => []
  | [f] => [{ f with bytes := f.bytes ++ [b] }]
  | f :: g :: fs => f :: pushByte b (g :: fs)

/-- R35, R43: add the end mark to the newest frame. -/
def pushMark (m : EndMark) : List StoredFrame → List StoredFrame
  | [] => []
  | [f] => [{ f with mark := some m }]
  | f :: g :: fs => f :: pushMark m (g :: fs)

/-! ## Slots -/

/-- R102: whether an answer slot's payload is fresh. -/
def AnswerSlot.fresh (x : AnswerSlot) : Bool :=
  (match x.content with
    | .none => false
    | .loaded _ => true
    | .learned _ => true) && (x.maxAge == 0 || decide (x.age < x.maxAge))

/-- R111: the aux of an answer: whole 10 ms units of the age, 255 at most. -/
def auxOfAge (age : Half) : Byte := BitVec.ofNat 8 (min (age.toNat / 10) 255)

/-- R104: the age of a learned payload: aux times 10 ms. -/
def ageOfAux (aux : Byte) : Half := BitVec.ofNat 16 (aux.toNat * 10)

/-- R128: the ports a beacon is sent on, in turn. -/
def BeaconPorts.list : BeaconPorts → List Port
  | .a => [.a]
  | .b => [.b]
  | .both => [.a, .b]

/-- The beacon timer of a slot, none when it is stopped or the slot is of another kind. -/
def Slot.beaconTimer (x : Slot) : Option Nat :=
  match x.body with
  | .beacon y => y.timer
  | _ => none

/-! ## The part -/

/-- R48: the output is FREE. -/
def Tx.isFree : Tx → Bool
  | .between n => decide (2 ≤ n)
  | _ => false

/-- R169: the frame being sent, or moved out and not yet started, is the reply a restart waits for. -/
def Tx.isNamed : Tx → Bool
  | .injection _ _ m => m
  | .closing m => m
  | _ => false

/-- R28: the closing ABORT is still to be sent. -/
def Tx.isClosing : Tx → Bool
  | .closing _ => true
  | _ => false

/-- R24: the relay states in which the part acts on management traffic and starts frames. -/
def RelayState.relays : RelayState → Bool
  | .relay => true
  | .fallback => true
  | .bypass => false
  | .joining => false

/-- R26: BYPASS, both ports SYNCED, both receivers in GAP. -/
def joinReady (s : State) : Bool :=
  decide (s.relay = .bypass) && decide (s.ports.a.state = .synced) && decide (s.ports.b.state = .synced)
    && decide (s.rx.a.delim = .gap) && decide (s.rx.b.delim = .gap)

/-- R120: a NOTICE entry stands in one of the queues. -/
def noticeQueued (s : State) : Bool :=
  s.queues.a.entries.any (fun e => e.body.isFrom .notice) || s.queues.b.entries.any (fun e => e.body.isFrom .notice)

/-- R173: the condition for a NOTICE, all but the owner. -/
def noticeWanted (s : State) : Bool :=
  decide (s.notice.pending ≠ 0) && !noticeQueued s && s.notice.repeatTimer.isNone && s.relay.relays

/-- R169: the reply the restart-pending mark names is neither queued nor being sent. -/
def restartDue (s : State) : Bool :=
  s.restartPending && !(s.queues.a.entries.any (·.body.isNamed) || s.queues.b.entries.any (·.body.isNamed)
    || s.paths.ab.tx.isNamed || s.paths.ba.tx.isNamed)

/-- R37: whether an MGMT dest is the part. -/
def addressedToPart (own dest : Byte) : Bool :=
  decide (dest = own) && decide (own ≠ 255)

/-- The staging bank's number (R55). -/
def BankId.other : BankId → BankId
  | .zero => .one
  | .one => .zero

/-- R55: a bank by its number. -/
def MatchEngine.bank (m : MatchEngine) : BankId → Bank
  | .zero => m.bank0
  | .one => m.bank1

/-- R55: the active bank. -/
def MatchEngine.active (m : MatchEngine) : Bank := m.bank m.selector

/-- R55: the staging bank. -/
def MatchEngine.staging (m : MatchEngine) : Bank := m.bank m.selector.other

/-- R67: the copy state is RUNNING (the agent state is COPYING, R151). -/
def MatchEngine.copying (m : MatchEngine) : Bool :=
  match m.copy with
  | .idle => false
  | .running _ _ _ _ => true

end Sys2Proof.Machine
end

