-- ==== Sys2Proof/Machine/Ops.lean ====
section
/-! DEFINITION. The named operations over the state that the meanings share: updates of one place, queue entries, the notice
unit, holds, commits, beacon timers, the clearing of the owner, the fallback latch, and the building of frames. -/

namespace Sys2Proof.Machine

/-! ## Updates of one place -/

/-- Replace a port's block. -/
def State.setPort (s : State) (p : Port) (v : PortBlock) : State := { s with ports := s.ports.set p v }

/-- Replace a port's receiver. -/
def State.setRx (s : State) (p : Port) (v : Receiver) : State := { s with rx := s.rx.set p v }

/-- Replace a relay path. -/
def State.setPath (s : State) (d : Dir) (v : RelayPath) : State := { s with paths := s.paths.set d v }

/-- Replace a port's injection queue. -/
def State.setQueue (s : State) (p : Port) (v : Queue) : State := { s with queues := s.queues.set p v }

/-- Replace a slot. -/
def State.setSlot (s : State) (n : Fin 32) (v : Slot) : State := { s with slots := s.slots.set n v }

/-- Replace what the agent is receiving from a port. -/
def State.setInbox (s : State) (p : Port) (v : Option Inbox) : State := { s with inbox := s.inbox.set p v }

/-- Count in a PORT group. -/
def State.bumpPort (s : State) (p : Port) (f : PortCounters → PortCounters) : State :=
  { s with portStats := s.portStats.set p (f (s.portStats.get p)) }

/-- Count in a DIR group. -/
def State.bumpDir (s : State) (d : Dir) (f : DirCounters → DirCounters) : State :=
  { s with dirStats := s.dirStats.set d (f (s.dirStats.get d)) }

/-- Count in the PROXY group. -/
def State.bumpProxy (s : State) (f : ProxyCounters → ProxyCounters) : State := { s with proxyStats := f s.proxyStats }

/-- Count in the AGENT group. -/
def State.bumpAgent (s : State) (f : AgentCounters → AgentCounters) : State := { s with agentStats := f s.agentStats }

/-- R35, R47: the high-water mark after the occupancy changes from one value to another: it follows a rise, and stops at the
capacity of 96 places [log 14]. -/
def raiseMark (mark old new : Nat) : Nat := if old < new then max mark (min new 96) else mark

/-- R35: replace a path's detour store. -/
def State.setStore (s : State) (d : Dir) (fs : List StoredFrame) : State :=
  s.setPath d { s.paths.get d with
    store := fs
    highWater := raiseMark (s.paths.get d).highWater (occupancy (s.paths.get d).store) (occupancy fs) }

/-! ## Queue entries -/

/-- R118: place an entry at the newest end with the current timestamp, when the queue has room (R120). -/
def place (p : Port) (b : EntryBody) (s : State) : State :=
  if (s.queues.get p).room then
    s.setQueue p { s.queues.get p with entries := (s.queues.get p).entries ++ [{ body := b, time := s.timestamp }] }
  else s

/-- R124: withdraw from one queue every entry that satisfies a test, each counted withdrawn in the queue's direction. -/
def withdrawFrom (t : EntryBody → Bool) (p : Port) (s : State) : State :=
  (s.setQueue p { s.queues.get p with entries := (s.queues.get p).entries.filter (fun e => !t e.body) }).bumpDir (dirOut p)
    (fun c => { c with withdrawn := satAdd c.withdrawn ((s.queues.get p).entries.filter (fun e => t e.body)).length })

/-- R124: withdraw from both queues. -/
def withdraw (t : EntryBody → Bool) (s : State) : State := withdrawFrom t .b (withdrawFrom t .a s)

/-! ## The notice unit -/

/-- R173: check the condition for a NOTICE and offer the entry to the queue of the owner port if it holds. -/
def offerNotice (s : State) : State :=
  match s.owner with
  | none => s
  | some o => if noticeWanted s then place o.port .notice s else s

/-- R183: the bit of a slot's event. -/
def slotBit (n : Fin 32) : BitVec 34 := (1 : BitVec 34) <<< n.val

/-- R183: the bit of a port's change event. -/
def portBit : Port → BitVec 34
  | .a => (1 : BitVec 34) <<< 32
  | .b => (1 : BitVec 34) <<< 33

/-- R172, R173: an addition makes the event pending, sets its mark, and has the condition checked. -/
def addEvent (bit : BitVec 34) (s : State) : State :=
  offerNotice { s with notice := { s.notice with pending := s.notice.pending ||| bit, marks := s.notice.marks ||| bit } }

/-- R79: a slot's event, added when its notify flag is set. -/
def slotEvent (n : Fin 32) (s : State) : State := if s.slots[n].notify then addEvent (slotBit n) s else s

/-! ## Capture slots and holds -/

/-- R94: one hold lapses. A slot that is not HELD has no hold. -/
def lapse (n : Fin 32) (s : State) : State :=
  match s.slots[n].body with
  | .capture (.held c o none _) =>
    slotEvent n { s.setSlot n { s.slots[n] with body := .capture (.full c o) } with
      holdList := s.holdList.filter (fun m => decide (m ≠ n)) }
  | .capture (.held _ _ (some r) _) =>
    slotEvent n { s.setSlot n { s.slots[n] with body := .capture (.full r true), count := satInc s.slots[n].count } with
      holdList := s.holdList.filter (fun m => decide (m ≠ n)) }
  | _ => s

/-- R95: every hold on the hold list lapses; the list is empty after the event. -/
def lapseAll (s : State) : State := { s.holdList.foldl (fun t n => lapse n t) s with holdList := [] }

/-- R86: a capture commit into a CAPTURE slot. -/
def captureCommit (n : Fin 32) (r : CapturedRecord) (s : State) : State :=
  match s.slots[n].body with
  | .capture .empty => slotEvent n (s.setSlot n { s.slots[n] with body := .capture (.full r false) })
  | .capture (.full _ _) =>
    slotEvent n (s.setSlot n { s.slots[n] with body := .capture (.full r true), count := satInc s.slots[n].count })
  | .capture (.held c o none k) =>
    slotEvent n (s.setSlot n { s.slots[n] with body := .capture (.held c o (some r) k) })
  | .capture (.held c o (some _) k) =>
    slotEvent n (s.setSlot n { s.slots[n] with
      body := .capture (.held c o (some r) k), count := satInc s.slots[n].count })
  | _ => s

/-- R104: a learn commit into an ANSWER slot. -/
def learnCommit (n : Fin 32) (payload : List Byte) (aux : Byte) (s : State) : State :=
  match s.slots[n].body with
  | .answer x =>
    slotEvent n ((s.setSlot n { s.slots[n] with
      body := .answer { x with content := .learned payload, age := ageOfAux aux },
      count := satInc s.slots[n].count }).bumpProxy (fun c => { c with learns := satInc c.learns }))
  | _ => s

/-! ## Beacon timers -/

/-- R130: stop a slot's beacon timer. -/
def stopBeacon (x : Slot) : Slot :=
  match x.body with
  | .beacon y => { x with body := .beacon { y with timer := none } }
  | _ => x

/-- R130: start a slot's beacon timer from a full interval. -/
def startBeacon (x : Slot) : Slot :=
  match x.body with
  | .beacon y => { x with body := .beacon { y with timer := some y.interval.toNat } }
  | _ => x

/-- R130: start a STOPPED beacon timer; a RUNNING one keeps its phase. -/
def startStoppedBeacon (x : Slot) : Slot :=
  match x.body with
  | .beacon y => if y.timer.isNone then startBeacon x else x
  | _ => x

/-! ## Relay state, latch and owner -/

/-- R27, R130, R173: entry to RELAY. -/
def enterRelay (s : State) : State :=
  offerNotice { s with relay := .relay, settle := none, slots := mapVec startStoppedBeacon s.slots }

/-- R27, R173: entry to FALLBACK from JOINING. -/
def enterFallback (s : State) : State := offerNotice { s with relay := .fallback, settle := none }

/-- R29: RELAY to FALLBACK: ANSWER and BEACON entries are withdrawn. -/
def relayToFallback (s : State) : State := offerNotice { withdraw EntryBody.hasSlot s with relay := .fallback }

/-- R29, R30: the fallback latch is set. -/
def setLatch (s : State) : State :=
  if s.relay = .relay then relayToFallback { s with latch := true, slots := mapVec stopBeacon s.slots }
  else { s with latch := true, slots := mapVec stopBeacon s.slots }

/-- R31, R130: a grant clears the latch; the beacon timers restart if it was set, and FALLBACK gives way to RELAY. The
notice check that the entry to RELAY brings about waits for the CLAIM's reply (R173). -/
def clearLatch (s : State) : State :=
  { s with
    latch := false
    slots := if s.latch then mapVec startBeacon s.slots
             else if s.relay = .fallback then mapVec startStoppedBeacon s.slots else s.slots
    relay := if s.relay = .fallback then .relay else s.relay }

/-- R141, R144, R146: the owner becomes absent, every hold lapses, and a NOTICE entry is withdrawn. The owner is absent
before the holds lapse, so their events place no NOTICE [log 25]. -/
def clearOwner (s : State) : State := withdraw (EntryBody.isFrom .notice) (lapseAll { s with owner := none })

/-! ## Built frames -/

/-- R15, R181: the data bytes of a frame the part builds: flags 0, the check over header and payload. -/
def buildFrame (kind dest src seq : Byte) (tag : Half) (aux : Byte) (payload : List Byte) : List Byte :=
  let body := [kind <<< 4, dest, src, seq] ++ bytes16 tag ++ [BitVec.ofNat 8 payload.length, aux] ++ payload
  body ++ bytes16 (frameCheck body)

end Sys2Proof.Machine
end

