-- ==== Sys2Proof/Machine/MatchTable.lean ====
section
/-! DEFINITION. The match engine (chapter 4): the search, hit counts, changes of the staging bank, the running copy. -/

namespace Sys2Proof.Machine

/-- R61: whether an entry's ports field admits the arrival port. -/
def EntryPorts.admits : EntryPorts → Port → Bool
  | .either, _ => true
  | .a, .a => true
  | .a, .b => false
  | .b, .a => false
  | .b, .b => true

/-- R61: whether an entry's kinds set holds a frame kind. -/
def Entry.hasKind (e : Entry) : Kind → Bool
  | .data => e.kData
  | .poll => e.kPoll
  | .answer => e.kAnswer
  | _ => false

/-- R61: whether a valid entry matches a frame. -/
def Entry.isMatch (e : Entry) (p : Port) (h : Header) : Bool :=
  e.valid && e.ports.admits p && e.hasKind (kindOf h.kindFlags) && decide (h.tag &&& e.mask = e.tag &&& e.mask)
    && (match e.src with | none => true | some x => decide (x = h.src))
    && (match e.dest with | none => true | some x => decide (x = h.dest))

/-- R62: the first matching entry in ascending index order. -/
def searchBank (b : Bank) (p : Port) (h : Header) : Option (Fin 64) := allEntries.find? (fun i => b[i].isMatch p h)

/-- Replace a bank. -/
def MatchEngine.setBank (m : MatchEngine) (k : BankId) (b : Bank) : MatchEngine :=
  match k with
  | .zero => { m with bank0 := b }
  | .one => { m with bank1 := b }

/-- R63: the deciding entry of the active bank counts a hit. -/
def MatchEngine.hit (m : MatchEngine) (i : Fin 64) : MatchEngine :=
  m.setBank m.selector (m.active.set i { m.active[i] with hits := satInc m.active[i].hits })

/-- R58, R59, R66: an entry of the staging bank is replaced and the staging generation rises. -/
def MatchEngine.writeStaging (m : MatchEngine) (i : Fin 64) (e : Entry) : MatchEngine :=
  { m.setBank m.selector.other (m.staging.set i e) with stagingGen := m.stagingGen + 1 }

/-- R59, R66, R72: every staging entry is cleared, the mark is cleared, the staging generation rises once. -/
def MatchEngine.clearStaging (m : MatchEngine) : MatchEngine :=
  { m.setBank m.selector.other (Vector.replicate 64 Entry.cleared) with
    stagingGen := m.stagingGen + 1, incomplete := false }

/-- R74: the banks are exchanged. -/
def MatchEngine.swap (m : MatchEngine) : MatchEngine :=
  { m with selector := m.selector.other, stagingGen := m.stagingGen + 1 }

/-- R68: one entry of the active bank goes into the staging entry of the same index, hit count 0. -/
def MatchEngine.copyEntry (m : MatchEngine) (i : Fin 64) : MatchEngine :=
  m.setBank m.selector.other (m.staging.set i { m.active[i] with hits := 0 })

/-- R68: the staging bank, the generation, the mark and the copy state at a copy's completion. -/
def MatchEngine.finishCopy (m : MatchEngine) : MatchEngine :=
  { m.setBank m.selector.other (mapVec (fun e => { e with hits := 0 }) m.active) with
    stagingGen := m.stagingGen + 1, incomplete := false, copy := .idle }

/-- R147: at a copy's completion the reply replaces the mark IN-PROGRESS of the copy's own entry. -/
def completeCache (manager seq : Byte) (payload : List Byte) (c : List CacheEntry) : List CacheEntry :=
  c.map (fun x => if x.manager = manager ∧ x.seq = seq ∧ x.reply = none then { x with reply := some payload } else x)

/-- R68: the completion's reply payload: BANK-COPY, DONE, the new staging generation (R184). -/
def copyReply (m : MatchEngine) : List Byte := [0x13, 0x00] ++ bytes16 m.finishCopy.stagingGen

/-- R68: the reply goes into the held place of the arrival port's queue, if the place still stands. -/
def fillHeldPlace (p : Port) (b : EntryBody) (s : State) : State :=
  if (s.queues.get p).held then
    s.setQueue p { entries := (s.queues.get p).entries ++ [{ body := b, time := s.timestamp }], held := false }
  else s

/-- R68: a running copy completes, in one event. -/
def completeCopy (s : State) : State :=
  match s.engine.copy with
  | .idle => s
  | .running _ p manager seq =>
    fillHeldPlace p (.mreply manager s.ownAddr seq (copyReply s.engine) false)
      { s with engine := s.engine.finishCopy, cache := completeCache manager seq (copyReply s.engine) s.cache }

/-- R68: the end of one 3 µs of a running copy: the next entry is copied; the copy completes when the position reaches 64. -/
def advanceCopy (s : State) : State :=
  match s.engine.copy with
  | .idle => s
  | .running pos p manager seq =>
    if h : pos < 64 then
      let t := { s with engine := { s.engine.copyEntry ⟨pos, h⟩ with copy := .running (pos + 1) p manager seq } }
      if pos + 1 = 64 then completeCopy t else t
    else completeCopy s

/-- BANK_COPY_ADVANCE (R68). -/
def execBankCopyAdvance (s : State) : Host.Outcome State Fault Refusal :=
  if s.resetPin then .next s else .next (advanceCopy s)

/-- BANK_COPY_COMPLETE (R68): a RUNNING copy completes [log 3]. -/
def execBankCopyComplete (s : State) : Host.Outcome State Fault Refusal :=
  if s.resetPin then .next s else .next (completeCopy s)

end Sys2Proof.Machine
end

