-- ==== Sys2Proof/Machine/Proxy.lean ====
section
/-! DEFINITION. The poll proxy (chapter 6): the test at a poll's header, the reservation, the poll's end. -/

namespace Sys2Proof.Machine

/-- R107: the reservation: a RESERVED ANSWER entry in the queue of the arrival port. -/
def reserve (p : Port) (h : Header) (n : Fin 32) (s : State) : State :=
  (place p (.answer n s.slots[n].gen false h.src h.dest h.seq h.tag) s).bumpProxy
    (fun c => { c with answered := satInc c.answered })

/-- R106: the entry of a queue whose slot field names the slot. -/
def entryOfSlot (n : Fin 32) (es : List QEntry) : Option QEntry := es.find? (fun e => e.body.names n)

/-- R106 step 5: whether an entry is from a poll with this src and seq. -/
def samePoll (h : Header) (b : EntryBody) : Bool :=
  match b with
  | .answer _ _ _ src _ seq _ => decide (src = h.src) && decide (seq = h.seq)
  | _ => false

/-- R106: the test of a poll against the answer slot its entry names. A miss is FORWARD (R109). -/
def pollTest (p : Port) (h : Header) (n : Fin 32) (x : AnswerSlot) (s : State) : State × Verdict :=
  if noproxy h then (s.bumpProxy (fun c => { c with missNoproxy := satInc c.missNoproxy }), .forward)
  else if h.dest = 0 ∨ h.dest = 255 then
    (s.bumpProxy (fun c => { c with missNoStation := satInc c.missNoStation }), .forward)
  else if x.content = .none then (s.bumpProxy (fun c => { c with missEmpty := satInc c.missEmpty }), .forward)
  else if x.fresh = false then (s.bumpProxy (fun c => { c with missStale := satInc c.missStale }), .forward)
  else match entryOfSlot n (s.queues.get p).entries with
    | some e =>
      if samePoll h e.body then
        (s.bumpProxy (fun c => { c with coalesced := satInc c.coalesced }), .answered false)
      else (s.bumpProxy (fun c => { c with missBusy := satInc c.missBusy }), .forward)
    | none =>
      if (s.queues.get p).room then (reserve p h n s, .answered true)
      else (s.bumpProxy (fun c => { c with missQueueFull := satInc c.missQueueFull }), .forward)

/-- R110: the entry a poll reserved: RESERVED, naming the slot and generation of the poll's decision record. -/
def isReservation (n : Fin 32) (g : Byte) (b : EntryBody) : Bool :=
  match b with
  | .answer m k r _ _ _ _ => decide (m = n) && decide (k = g) && !r
  | _ => false

/-- R121: a RESERVED entry becomes READY. -/
def makeReady (b : EntryBody) : EntryBody :=
  match b with
  | .answer n g _ src dest seq tag => .answer n g true src dest seq tag
  | _ => b

/-- R110: the end of a poll that placed a reservation. -/
def pollEnd (p : Port) (cls : EndClass) (n : Fin 32) (g : Byte) (s : State) : State :=
  if (s.queues.get p).entries.any (fun e => isReservation n g e.body) then
    if cls = .good then
      s.setQueue p { s.queues.get p with
        entries := (s.queues.get p).entries.map
          (fun e => if isReservation n g e.body then { e with body := makeReady e.body } else e) }
    else (withdrawFrom (isReservation n g) p s).bumpProxy
      (fun c => { c with answerLostBadPoll := satInc c.answerLostBadPoll })
  else s

end Sys2Proof.Machine
end

