-- ==== Sys2Proof/Machine/Relay.lean ====
section
/-! DEFINITION. A relay path between a header and its end (chapter 3): the decision, the bytes that follow, the end. The agent's
share of a frame's end stands in Agent.lean. -/

namespace Sys2Proof.Machine

/-- R40: a decision that names no commit and no slot. -/
def plainDecision (v : Verdict) (e : EntryRef) : Decision :=
  { verdict := v, entry := e, commit := .none, slot := none, agentCopy := false }

/-- R64: the match engine's slot mismatch: forwarded as PASS, counted. -/
def slotMismatch (p : Port) (i : Fin 64) (s : State) : State × Decision :=
  (s.bumpDir (dirIn p) (fun c => { c with slotMismatch := satInc c.slotMismatch }), plainDecision .forward (.entry i))

/-- R39, R62: no entry matches: the default action of the direction. -/
def defaultDecision (p : Port) (s : State) : State × Decision :=
  match s.settings.defaults.get (dirIn p) with
  | .pass => (s, plainDecision .forward .default)
  | .drop =>
    (s.bumpDir (dirIn p) (fun c => { c with droppedDefault := satInc c.droppedDefault }), plainDecision .drop .default)

/-- R39, R64: the outcome of a deciding entry. -/
def entryDecision (p : Port) (h : Header) (i : Fin 64) (e : Entry) (s : State) : State × Decision :=
  match e.action, e.slot with
  | .pass, _ => (s, plainDecision .forward (.entry i))
  | .drop, _ =>
    (s.bumpDir (dirIn p) (fun c => { c with droppedEntry := satInc c.droppedEntry }), plainDecision .drop (.entry i))
  | _, none => slotMismatch p i s
  | .capture, some n =>
    match s.slots[n].body with
    | .capture _ => (s, { plainDecision .forward (.entry i) with commit := .capture n s.slots[n].gen })
    | _ => slotMismatch p i s
  | .take, some n =>
    match s.slots[n].body with
    | .capture _ =>
      (s.bumpDir (dirIn p) (fun c => { c with taken := satInc c.taken }),
        { plainDecision .take (.entry i) with commit := .capture n s.slots[n].gen })
    | _ => slotMismatch p i s
  | .learn, some n =>
    match s.slots[n].body with
    | .answer _ => (s, { plainDecision .forward (.entry i) with commit := .learn n s.slots[n].gen })
    | _ => slotMismatch p i s
  | .answer, some n =>
    match s.slots[n].body with
    | .answer x =>
      match pollTest p h n x s with
      | (t, .answered r) =>
        (t, { plainDecision (.answered r) (.entry i) with slot := some (n, s.slots[n].gen) })
      | (t, v) => (t, plainDecision v (.entry i))
    | _ => slotMismatch p i s

/-- R39, R61 to R63: a DATA, POLL or ANSWER header in RELAY. -/
def matchDecision (p : Port) (h : Header) (s : State) : State × Decision :=
  match searchBank s.engine.active p h with
  | none => defaultDecision p s
  | some i => entryDecision p h i s.engine.active[i] { s with engine := s.engine.hit i }

/-- R42, R51: a frame consumed for the agent is counted at its header. -/
def countConsumed (p : Port) (s : State) : State :=
  s.bumpDir (dirIn p) (fun c => { c with consumedAgent := satInc c.consumedAgent })

/-- R134: the agent begins to receive a frame. -/
def openInbox (p : Port) (k : InboxKind) (h : Header) (s : State) : State :=
  s.setInbox p (some { kind := k, src := h.src, seq := h.seq, payload := [] })

/-- R37: an MGMT header in RELAY or FALLBACK. -/
def mgmtDecision (p : Port) (h : Header) (s : State) : State × Decision :=
  if addressedToPart s.ownAddr h.dest then
    (countConsumed p (openInbox p (.request false) h s), plainDecision .consumeAgent .none)
  else if h.dest = 255 then
    (openInbox p (.request true) h s, { plainDecision .forward .none with agentCopy := true })
  else (s, plainDecision .forward .none)

/-- R36: the outcome of a header reported in RELAY or FALLBACK, by kind. -/
def decideHeader (p : Port) (h : Header) (s : State) : State × Decision :=
  match kindOf h.kindFlags with
  | .mgmt => mgmtDecision p h s
  | .mreply => (s, plainDecision .forward .none)
  | .assign => (countConsumed p (openInbox p .assign h s), plainDecision .consumeAssign .none)
  | .unknown =>
    (s.bumpDir (dirIn p) (fun c => { c with unknownKind := satInc c.unknownKind }), plainDecision .forward .none)
  | .data => if s.relay = .relay then matchDecision p h s else (s, plainDecision .forward .none)
  | .poll => if s.relay = .relay then matchDecision p h s else (s, plainDecision .forward .none)
  | .answer => if s.relay = .relay then matchDecision p h s else (s, plainDecision .forward .none)

/-- R36, R134: a header reported in BYPASS or JOINING gets no decision; one the agent would have received is counted. -/
def undecidedHeader (h : Header) (s : State) : State :=
  if (kindOf h.kindFlags = .mgmt ∧ addressedToPart s.ownAddr h.dest = true) ∨ kindOf h.kindFlags = .assign then
    s.bumpAgent (fun c => { c with discardedBypass := satInc c.discardedBypass })
  else s

/-- R40, R41: the header hold and decision record are filled; a FORWARD frame's 8 header bytes enter the detour store. -/
def holdHeader (p : Port) (h : Header) (t : Wide) (d : Decision) (s : State) : State :=
  let s' := s.setPath (dirIn p) { s.paths.get (dirIn p) with
    flight := some { header := h, sofTime := t, decision := d, buffer := [] } }
  if d.verdict = .forward then
    s'.setStore (dirIn p) ((s'.paths.get (dirIn p)).store ++ [{ bytes := headerBytes h, mark := none }])
  else s'

/-- R36: a header reported to its relay path. -/
def headerReport (p : Port) (h : Header) (t : Wide) (s : State) : State :=
  if s.relay.relays then holdHeader p h t (decideHeader p h s).2 (decideHeader p h s).1 else undecidedHeader h s

/-- R40: a frame ended LENGTH at its header gets no decision; it is counted in RELAY and FALLBACK, an unknown kind with a len above 60
as dropped-length alone and not as unknown-kind, the model's choice [log 36]. -/
def lengthAtHeader (p : Port) (s : State) : State :=
  if s.relay.relays then s.bumpDir (dirIn p) (fun c => { c with droppedLength := satInc c.droppedLength }) else s

/-- R42: a commit buffer takes the payload bytes of a frame whose decision names a commit. -/
def bufferByte (b : Byte) (payload : Bool) (f : InFlight) : InFlight :=
  if payload && decide (f.decision.commit ≠ .none) then { f with buffer := f.buffer ++ [b] } else f

/-- R41, R42: a further data byte of the frame now arriving; `payload` is false for the two check bytes. -/
def pathByte (p : Port) (b : Byte) (payload : Bool) (s : State) : State :=
  match (s.paths.get (dirIn p)).flight with
  | none => s
  | some f =>
    let s' := s.setPath (dirIn p) { s.paths.get (dirIn p) with flight := some (bufferByte b payload f) }
    if f.decision.verdict = .forward then s'.setStore (dirIn p) (pushByte b (s'.paths.get (dirIn p)).store) else s'

/-- R42: the agent receives the payload bytes of a frame it is receiving. -/
def inboxByte (p : Port) (b : Byte) (payload : Bool) (s : State) : State :=
  match s.inbox.get p with
  | none => s
  | some x => if payload then s.setInbox p (some { x with payload := x.payload ++ [b] }) else s

/-- R10, R13, R42: a further data byte of a frame with a reported header. -/
def relayByte (p : Port) (b : Byte) (payload : Bool) (s : State) : State := inboxByte p b payload (pathByte p b payload s)

/-- R44: the commit a decision names, made at a GOOD end in RELAY if the slot's setup generation still stands. The state at the end
alone counts, as R44 has it: a frame decided in RELAY that sees FALLBACK and RELAY again before its end keeps its commit, where R52's
row RELAY to FALLBACK says that it is abandoned at the end. The model's choice [log 35]. -/
def endCommit (p : Port) (cls : EndClass) (f : InFlight) (s : State) : State :=
  if cls = .good ∧ s.relay = .relay then
    match f.decision.commit, f.decision.entry with
    | .none, _ => s
    | .capture n g, .entry i =>
      if s.slots[n].gen = g then
        captureCommit n { header := f.header, payload := f.buffer, sofTime := f.sofTime, port := p, entry := i } s
      else s
    | .capture _ _, _ => s
    | .learn n g, _ => if s.slots[n].gen = g then learnCommit n f.buffer f.header.aux s else s
  else s

/-- R43 to R45: what a frame's end does in its relay path, before the hold is cleared. -/
def endVerdict (p : Port) (cls : EndClass) (f : InFlight) (s : State) : State :=
  match f.decision.verdict with
  | .forward =>
    endCommit p cls f (s.setStore (dirIn p)
      (pushMark (if cls = .good then .eof else .abort) (s.paths.get (dirIn p)).store))
  | .take => endCommit p cls f s
  | .answered true =>
    match f.decision.slot with
    | some (n, g) => pollEnd p cls n g s
    | none => s
  | .answered false => s
  | .drop => s
  | .consumeAgent => s
  | .consumeAssign => s

/-- R35, R43 to R45: the end of the frame now arriving, and the clearing of its hold, record and buffer. -/
def closeFlight (p : Port) (cls : EndClass) (s : State) : State :=
  match (s.paths.get (dirIn p)).flight with
  | none => s
  | some f =>
    let s' := endVerdict p cls f s
    s'.setPath (dirIn p) { s'.paths.get (dirIn p) with flight := none }

end Sys2Proof.Machine
end

