-- ==== Sys2Proof/Machine/Restart.lean ====
section
/-! DEFINITION. RESTART: its beginning (R169) and the values every block takes (R170). -/

namespace Sys2Proof.Machine

/-- R23: a port at a restart: SYNCING or DOWN by its detector, bucket 0, cool-down stopped. -/
def restartPort (signal : Bool) : PortBlock :=
  { state := if signal then .syncing else .down, syncIdle := 0, bucket := 0, coolDown := none }

/-- R32, R54: a relay path at a restart: a frame being sent is ended with ABORT in the next byte time, and the rest is as
after a full reset. The symbol sent last stands until the next byte time. The closing ABORT of a through-frame is not counted
poisoned: R53 counts the ABORT when it is sent, R54 and R170 leave the counters at 0; the model's choice [log 42]. -/
def restartPath (x : RelayPath) : RelayPath :=
  match x.tx with
  | .through true => { RelayPath.reset with tx := .closing false, line := x.line }
  | .injection true _ _ => { RelayPath.reset with tx := .closing false, line := x.line }
  | .closing _ => { RelayPath.reset with tx := .closing false, line := x.line }
  | .through false => { RelayPath.reset with line := x.line }
  | .injection false _ _ => { RelayPath.reset with line := x.line }
  | .between _ => { RelayPath.reset with line := x.line }

/-- R63: a bank with every hit count 0. -/
def zeroHits (b : Bank) : Bank := mapVec (fun e => { e with hits := 0 }) b

/-- R71, R76: the match engine at a restart: a running copy is abandoned, every hit count is 0. -/
def restartEngine (m : MatchEngine) : MatchEngine :=
  { m with
    bank0 := zeroHits m.bank0
    bank1 := zeroHits m.bank1
    stagingGen := if m.copying then m.stagingGen + 1 else m.stagingGen
    incomplete := m.incomplete || m.copying
    copy := .idle }

/-- R99, R117, R133: a slot at a restart. -/
def restartSlot (x : Slot) : Slot :=
  match x.body with
  | .unused => { x with count := 0 }
  | .capture _ => { x with count := 0, body := .capture .empty }
  | .answer y =>
    match y.content with
    | .loaded p => { x with count := 0, body := .answer { y with content := .loaded p, age := 0 } }
    | .learned _ => { x with count := 0, body := .answer { y with content := .none, age := 0 } }
    | .none => { x with count := 0, body := .answer { y with content := .none, age := 0 } }
  | .beacon y => { x with count := 0, body := .beacon { y with timer := none } }

/-- R170: the restart begins: every block takes its RESTART values in one event. The BYPASS output is asserted at once from
JOINING, and from RELAY or FALLBACK once the closing symbols have been sent (R25, R32) [log 20]. The time base runs on (R33, R34).
R12 gives the SOF timestamp register no value after a RESTART: it is set to 0, as after a full reset [log 8]. -/
def restartBegin (s : State) : State :=
  { s with
    bypassPin := s.bypassPin || decide (s.relay = .joining)
    ports := ⟨restartPort s.signal.a, restartPort s.signal.b⟩
    rx := ⟨.reset, .reset⟩
    relay := .bypass
    settle := none
    paths := ⟨restartPath s.paths.ab, restartPath s.paths.ba⟩
    engine := restartEngine s.engine
    slots := mapVec restartSlot s.slots
    holdList := []
    queues := ⟨⟨[], false⟩, ⟨[], false⟩⟩
    owner := none
    cache := []
    inbox := ⟨none, none⟩
    restartPending := false
    notice := .reset
    portStats := ⟨.zero, .zero⟩
    dirStats := ⟨.zero, .zero⟩
    proxyStats := .zero
    agentStats := .zero }

/-- R169: the restart begins in the event in which the reply the mark names has been sent, cut off, discarded or withdrawn. It
begins last in that event: a port-change event added in it is emptied with the set, an order R172 leaves open [log 34]. -/
def settleRestart (s : State) : State := if restartDue s then restartBegin s else s

/-- RESTART_BEGIN (R170): with the restart-pending mark set, the restart begins [log 3]. -/
def execRestartBegin (s : State) : Host.Outcome State Fault Refusal :=
  if s.restartPending && !s.resetPin then .next (restartBegin s) else .next s

end Sys2Proof.Machine
end

