-- ==== Sys2Proof/Machine/Ports.lean ====
section
/-! DEFINITION. Ports, bypass and joining (chapter 2): the port states and the error bucket, leaving and entering the line,
RESET, the signal detectors, the cool-down and settle timers. -/

namespace Sys2Proof.Machine

/-! ## Leaving the line (R28) -/

/-- R28, R48: a transmitter on entry to BYPASS. A frame being sent on a port still SYNCED is ended with ABORT in the next byte
time; on a port that left SYNCED it is cut off; one whose SOF has not been sent is discarded. A through-frame is counted poisoned
in this event (cutOutput) and not a second time at its closing ABORT [log 42]. -/
def cutTx (synced : Bool) : Tx → Tx
  | .through true => if synced then .closing false else .between 2
  | .injection true _ m => if synced then .closing m else .between 2
  | .closing m => .closing m
  | .through false => .between 2
  | .injection false _ _ => .between 2
  | .between _ => .between 2

/-- R28: a relay path on entry to BYPASS: detour store emptied, the decision record abandoned. -/
def cutPath (synced : Bool) (x : RelayPath) : RelayPath :=
  { x with store := [], flight := none, tx := cutTx synced x.tx }

/-- R28: the output of a port on entry to BYPASS; each through-frame being sent or waiting is counted poisoned. -/
def cutOutput (p : Port) (s : State) : State :=
  (s.setPath (dirOut p) (cutPath (decide ((s.ports.get p).state = .synced)) (s.paths.get (dirOut p)))).bumpDir (dirOut p)
    (fun c => { c with poisoned := satAdd c.poisoned (s.paths.get (dirOut p)).store.length })

/-- R28: a queue on entry to BYPASS: every entry withdrawn and counted, the held place lost. -/
def flushQueue (p : Port) (s : State) : State :=
  (s.setQueue p { entries := [], held := false }).bumpDir (dirOut p)
    (fun c => { c with withdrawn := satAdd c.withdrawn (s.queues.get p).entries.length })

/-- R25, R27, R28: entry to BYPASS from JOINING, RELAY or FALLBACK. From JOINING the BYPASS output is asserted at once; from
the other two once the closing symbols have been sent [log 20]. -/
def enterBypass (s : State) : State :=
  { flushQueue .b (flushQueue .a (cutOutput .b (cutOutput .a s))) with
    relay := .bypass, settle := none, bypassPin := s.bypassPin || decide (s.relay = .joining) }

/-- R8, R12: a receiver whose frame has ended: GAP, gap count 0. The rules give the byte count, the stored header, the check bytes
and the short-gap mark no value between frames: they are cleared, while the check register and the SOF timestamp stand, the model's
choice [log 41]. The gap count after a frame cut off under R12 is 0 [log 22]. -/
def endedRx (r : Receiver) : Receiver :=
  { r with delim := .gap, gapCount := 0, byteCount := 0, header := [], checkBytes := [], shortGap := false }

/-- R12: the frame in progress on a port that leaves SYNCED ends as ABORTED, uncounted; the agent discards what it was
receiving (R135 test 1). -/
def cutFrame (p : Port) (s : State) : State :=
  if (s.rx.get p).delim = .gap then s
  else ((closeFlight p .aborted s).setInbox p none).setRx p (endedRx (s.rx.get p))

/-- R28: ports have left SYNCED (their states are already set): frames in progress end first (R43), then the part leaves the
line if it stands in it [log 18]. -/
def leaveSynced (ps : List Port) (s : State) : State :=
  let s' := ps.foldl (fun t p => cutFrame p t) s
  if s'.relay = .bypass then s' else enterBypass s'

/-! ## The error bucket (R20, R21) -/

/-- R17, R22: a port enters FAULT: bucket 0, faults entered +1, cool-down started (it expires at the 51st 1 ms tick). -/
def setFault (p : Port) (s : State) : State :=
  (s.setPort p { state := .fault, syncIdle := 0, bucket := 0, coolDown := some 51 }).bumpPort p
    (fun c => { c with faultsEntered := satInc c.faultsEntered })

/-- R17: ports move to FAULT in one event. Join control acts on the change before the notice unit adds the event [log 17]. -/
def enterFault (ps : List Port) (s : State) : State :=
  ps.foldl (fun t p => addEvent (portBit p) t) (leaveSynced ps (ps.foldl (fun t p => setFault p t) s))

/-- R20: n additions to a SYNCED port's bucket, compared with the limit once. -/
def bucketAdd (p : Port) (n : Nat) (s : State) : State :=
  if n = 0 ∨ (s.ports.get p).state ≠ .synced then s
  else if (s.settings.bucketLimit.get p).toNat ≤ (s.ports.get p).bucket + n then enterFault [p] s
  else s.setPort p { s.ports.get p with bucket := (s.ports.get p).bucket + n }

/-- R21: the SYNCED ports whose bucket stands at or above their limit. -/
def overLimit (s : State) : List Port :=
  [Port.a, Port.b].filter (fun p =>
    decide ((s.ports.get p).state = .synced) && decide ((s.settings.bucketLimit.get p).toNat ≤ (s.ports.get p).bucket))

/-- R21: after a SETTINGS-WRITE each new limit is compared with the bucket of a SYNCED port. -/
def compareLimits (s : State) : State :=
  match overLimit s with
  | [] => s
  | ps => enterFault ps s

/-! ## Joining (R26, R27) -/

/-- R26: BYPASS gives way to JOINING when both ports are SYNCED and both receivers in GAP; the settle timer expires at the
second 1 ms tick. -/
def joinCheck (s : State) : State :=
  if joinReady s then { s with relay := .joining, bypassPin := false, settle := some 2 } else s

/-- R17, R18: the 32nd consecutive IDLE takes a port to SYNCED with its receiver in GAP and the gap count at 2. -/
def portSynced (p : Port) (s : State) : State :=
  addEvent (portBit p) (joinCheck
    ((s.setPort p { s.ports.get p with state := .synced, syncIdle := 0 }).setRx p
      { endedRx (s.rx.get p) with gapCount := 2 }))

/-- R27: the join settle timer expires. -/
def settleExpiry (s : State) : State := if s.latch then enterFallback s else enterRelay s

/-- JOIN_SETTLE_EXPIRY (R27): in JOINING, with the timer running [log 3]. -/
def execJoinSettleExpiry (s : State) : Host.Outcome State Fault Refusal :=
  if s.resetPin = false ∧ s.relay = .joining then .next (settleExpiry s) else .next s

/-- R22, R17: the cool-down timer expires. -/
def coolDownEnd (p : Port) (s : State) : State :=
  addEvent (portBit p) (s.setPort p { s.ports.get p with
    state := if s.signal.get p then .syncing else .down, syncIdle := 0, coolDown := none })

/-- COOL_DOWN_EXPIRY (R22): in FAULT, with the timer running [log 3]. -/
def execCoolDownExpiry (p : Port) (s : State) : Host.Outcome State Fault Refusal :=
  if s.resetPin = false ∧ (s.ports.get p).state = .fault ∧ (s.ports.get p).coolDown ≠ none then .next (coolDownEnd p s)
  else .next s

/-! ## Detectors and RESET -/

/-- R17: a DOWN port whose detector reports a signal enters SYNCING. -/
def startSync (p : Port) (s : State) : State :=
  addEvent (portBit p) (s.setPort p { s.ports.get p with state := .syncing, syncIdle := 0 })

/-- SIGNAL_PRESENT (R17): the detector's report; while RESET is asserted it is not acted on (R23). -/
def execSignalPresent (p : Port) (s : State) : Host.Outcome State Fault Refusal :=
  let s' := { s with signal := s.signal.set p true }
  if s.resetPin = false ∧ (s.ports.get p).state = .down then .next (startSync p s') else .next s'

/-- R17: loss of signal on a port that is not DOWN. -/
def loseSignal (p : Port) (s : State) : State :=
  let s' := s.setPort p { s.ports.get p with state := .down, syncIdle := 0, coolDown := none }
  addEvent (portBit p) (if (s.ports.get p).state = .synced then leaveSynced [p] s' else s')

/-- LOSS_OF_SIGNAL (R17). -/
def execLossOfSignal (p : Port) (s : State) : Host.Outcome State Fault Refusal :=
  let s' := { s with signal := s.signal.set p false }
  if s.resetPin = false ∧ (s.ports.get p).state ≠ .down then .next (settleRestart (loseSignal p s')) else .next s'

/-- RESET_ASSERT (R32, R23, R54, R76, R99, R133, R151, R172, R177): every block takes its full-reset values. The detectors'
reports, the sampled rate (held until the release, R2) and the waiting commands stand. -/
def execResetAssert (s : State) : Host.Outcome State Fault Refusal :=
  .next { State.reset with signal := s.signal, rate := s.rate, freeCount := s.freeCount, pending := s.pending }

/-- R23: a port at the release: SYNCING when its detector reports a signal. -/
def releasePort (p : Port) (s : State) : State := if s.signal.get p then startSync p s else s

/-- RESET_RELEASE (R2, R23, R33): the straps are sampled, and each port with a signal enters SYNCING. -/
def execResetRelease (straps : BitVec 2) (s : State) : Host.Outcome State Fault Refusal :=
  if s.resetPin then .next (releasePort .b (releasePort .a { s with resetPin := false, rate := straps })) else .next s

end Sys2Proof.Machine
end

