-- ==== Sys2Proof/Machine/Agent.lean ====
section
/-! DEFINITION. Management sessions (chapter 8): which frames the agent takes as requests, the steps of R137, the reply room,
the reply cache, and address enumeration. The requests themselves stand in Requests.lean. -/

namespace Sys2Proof.Machine

/-- R138, R182: the status codes. -/
inductive Status where
  | done
  | noOwner
  | owned
  | badRequest
  | badValue
  | badEntry
  | wrongKind
  | busy
  | stale
  | incomplete
  | holdsFull
  | notHeld
deriving DecidableEq, Repr

/-- R182: the byte of a status. -/
def statusByte : Status → Byte
  | .done => 0x00
  | .noOwner => 0x01
  | .owned => 0x02
  | .badRequest => 0x03
  | .badValue => 0x04
  | .badEntry => 0x05
  | .wrongKind => 0x06
  | .busy => 0x07
  | .stale => 0x08
  | .incomplete => 0x09
  | .holdsFull => 0x0A
  | .notHeld => 0x0B

/-- What steps 5 and 6 of R137 answer: a reply with its results, `named` when it is the reply a restart waits for (R168); or
a BANK-COPY has started and its reply waits for the completion (R67). -/
inductive Answer where
  | reply (status : Status) (results : List Byte) (named : Bool)
  | copyStarted
deriving DecidableEq, Repr

/-- A reply that names no restart. -/
def Answer.plain (st : Status) (results : List Byte) : Answer := .reply st results false

/-- How the agent treats one request: what step 3 refuses it with, whether it is owner-only (step 4), the checks and the
execution (steps 5 and 6), and what follows once its reply has been placed (R157, R173). -/
structure Handler where
  step3     : Option Status
  ownerOnly : Bool
  run       : Envelope → State → State × Answer
  after     : Answer → State → State

/-- R139, R136: a READY MREPLY entry on the queue of the arrival port, its header fixed now. -/
def placeReply (e : Envelope) (payload : List Byte) (named : Bool) (s : State) : State :=
  place e.port (.mreply e.src s.ownAddr e.seq payload named) s

/-- Nothing follows a reply. -/
def noAfter : Answer → State → State := fun _ s => s

/-- Whether an answer is a reply with status DONE. -/
def Answer.isDone : Answer → Bool
  | .reply .done _ _ => true
  | _ => false

/-- R147: record a request at the front of the cache, over the manager's entry or, when the cache is full, in place of the
one at the back. -/
def recordCache (manager seq : Byte) (reply : Option (List Byte)) (c : List CacheEntry) : List CacheEntry :=
  { manager := manager, seq := seq, reply := reply } :: (c.filter (fun x => decide (x.manager ≠ manager))).take 3

/-- R147: the cache after a request; a broadcast IDENT is not recorded. -/
def recordRequest (e : Envelope) (reply : Option (List Byte)) (s : State) : State :=
  if e.copy then s else { s with cache := recordCache e.src e.seq reply s.cache }

/-- R148: the cached entry with a request's src and seq. -/
def cachedEntry (e : Envelope) (s : State) : Option CacheEntry :=
  s.cache.find? (fun x => decide (x.manager = e.src) && decide (x.seq = e.seq))

/-- R147, R148: a duplicate moves its entry to the front, contents unchanged. -/
def refreshCache (x : CacheEntry) (c : List CacheEntry) : List CacheEntry :=
  x :: c.filter (fun y => decide (y.manager ≠ x.manager))

/-- R139, R148: count a reply that found no room. -/
def countNoRoom (s : State) : State := s.bumpAgent (fun c => { c with droppedNoRoom := satInc c.droppedNoRoom })

/-- R148: a duplicate is not executed; the cached reply is offered again, or nothing for IN-PROGRESS. Its entry moves to the front of
the cache, as R147 and R148 say, where R137 says that a request disposed of at step 1 changes nothing and that the manager's entry is
not refreshed. The model's choice [log 39]. -/
def duplicate (e : Envelope) (x : CacheEntry) (s : State) : State :=
  let s' := { s.bumpAgent (fun c => { c with duplicates := satInc c.duplicates }) with cache := refreshCache x s.cache }
  match x.reply with
  | none => s'
  | some payload => if (s.queues.get e.port).room then placeReply e payload false s' else countNoRoom s'

/-- R137, R179: count a request answered. -/
def countAnswer (st : Status) (s : State) : State :=
  if st = .done then s.bumpAgent (fun c => { c with executed := satInc c.executed })
  else s.bumpAgent (fun c => { c with refused := satInc c.refused })

/-- R137, R139, R147: the reply is placed, recorded and counted; a started copy is recorded IN-PROGRESS and counted. -/
def finishRequest (e : Envelope) (code : Byte) (a : Answer) (s : State) : State :=
  match a with
  | .reply st results named =>
    countAnswer st (recordRequest e (some (code :: statusByte st :: results))
      (placeReply e (code :: statusByte st :: results) named s))
  | .copyStarted => countAnswer .done (recordRequest e none s)

/-- R140: the refusal of an owner-only request from a manager that is not the owner; none when it may pass. -/
def ownershipRefusal (ownerOnly : Bool) (e : Envelope) (s : State) : Option Answer :=
  if ownerOnly then
    match s.owner with
    | none => some (.plain .noOwner [])
    | some o => if o.addr = e.src then none else some (.plain .owned (o.addr :: bytes16 (BitVec.ofNat 16 o.lease)))
  else none

/-- R137 steps 3 to 6: what the request does and answers. -/
def runRequest (h : Handler) (e : Envelope) (s : State) : State × Answer :=
  match h.step3 with
  | some st => (s, .plain st [])
  | none =>
    match ownershipRefusal h.ownerOnly e s with
    | some a => (s, a)
    | none => h.run e s

/-- R137: the examination of a request, step by step. -/
def examine (h : Handler) (code : Byte) (e : Envelope) (s : State) : State :=
  match if e.copy then none else cachedEntry e s with
  | some x => duplicate e x s
  | none =>
    if (s.queues.get e.port).room then
      h.after (runRequest h e s).2 (finishRequest e code (runRequest h e s).2 (runRequest h e s).1)
    else countNoRoom s

/-- R135: the tests at a request's GOOD end, and the examination of one that passes. -/
def agentRequest (h : Handler) (code : Byte) (e : Envelope) (s : State) : State :=
  if e.copy ∧ code ≠ 0x01 then s
  else if s.relay.relays = false then s.bumpAgent (fun c => { c with discardedBypass := satInc c.discardedBypass })
  else if e.src = 255 then s.bumpAgent (fun c => { c with droppedBadSrc := satInc c.droppedBadSrc })
  else examine h code e s

/-- A request row: the GOOD end of a request at the agent; while RESET is asserted no frame arrives (R23). A restart its
effects bring about begins in its event (R169). -/
def requestRow (h : Handler) (code : Byte) (e : Envelope) (s : State) : Host.Outcome State Fault Refusal :=
  if s.resetPin then .next s else .next (settleRestart (agentRequest h code e s))

/-! ## Address enumeration (R149) -/

/-- R120: whether a queue holds an ASSIGN entry. -/
def hasAssign (q : Queue) : Bool := q.entries.any (fun e => e.body.isFrom .assign)

/-- R120: the byte of a queued ASSIGN entry is replaced; it keeps its place, time and state. -/
def replaceAssign (b : Byte) (q : Queue) : Queue :=
  { q with entries := q.entries.map (fun e => if e.body.isFrom .assign then { e with body := .assign b } else e) }

/-- R149, R120: the regenerated ASSIGN is offered to a queue. -/
def offerAssign (p : Port) (b : Byte) (s : State) : State :=
  if hasAssign (s.queues.get p) then s.setQueue p (replaceAssign b (s.queues.get p))
  else if (s.queues.get p).room then place p (.assign b) s
  else countNoRoom s

/-- R149: the GOOD end of an enumeration frame with payload byte n, arrived on port p. -/
def assignEnd (p : Port) (n : Byte) (s : State) : State :=
  if s.relay.relays then
    if n = 0 ∨ n = 255 then offerAssign (otherPort p) n s
    else offerAssign (otherPort p) (n + 1) { s with ownAddr := n }
  else s.bumpAgent (fun c => { c with discardedBypass := satInc c.discardedBypass })

/-- ASSIGN (R149): the GOOD end of an enumeration frame at the agent. -/
def execAssign (p : Port) (n : Byte) (s : State) : Host.Outcome State Fault Refusal :=
  if s.resetPin then .next s else .next (assignEnd p n s)

end Sys2Proof.Machine
end

