-- ==== Sys2Proof/Machine/Requests.lean ====
section
/-! DEFINITION. The management requests that are not about the table, the slots or the counters (chapter 9): IDENT, CLAIM,
RENOUNCE, SETTINGS-READ, SETTINGS-WRITE, NOTICE-ACK, RESTART, and a payload that is none of the seventeen requests. -/

namespace Sys2Proof.Machine

/-- R152: step 3 for a request with one parameter length. -/
def lengthCheck (n : Nat) (ps : List Byte) : Option Status := if ps.length = n then none else some .badRequest

/-! ## IDENT (R153) -/

/-- R153, R184: the results of IDENT. -/
def identResults (s : State) : List Byte :=
  bytes16 2610 ++ [1, s.rate.setWidth 8, s.ownAddr, relayStateByte s.relay, flagByte s.latch,
    portStateByte s.ports.a.state, portStateByte s.ports.b.state, ownerByte s.owner]
  ++ bytes16 (leaseOf s.owner)
  ++ [policyByte (policyInForce s.owner), flagByte s.engine.copying, bankByte s.engine.selector]
  ++ bytes16 s.engine.stagingGen ++ [flagByte s.engine.incomplete, flagByte s.restartPending]

/-- R153: IDENT changes nothing. -/
def identHandler (ps : List Byte) : Handler :=
  { step3 := lengthCheck 0 ps, ownerOnly := false, run := fun _ s => (s, .plain .done (identResults s)), after := noAfter }

/-- IDENT (R153), addressed or broadcast. -/
def execIdent (e : Envelope) (ps : List Byte) (s : State) : Host.Outcome State Fault Refusal :=
  requestRow (identHandler ps) 0x01 e s

/-! ## CLAIM and RENOUNCE (R142, R146, R154) -/

/-- R142: a grant, in one event. -/
def grant (e : Envelope) (lease : Half) (policy : Policy) (s : State) : State :=
  { clearLatch s with owner := some { addr := e.src, lease := lease.toNat, policy := policy, port := e.port } }

/-- R142: the agent's checks of a CLAIM, and the grant. -/
def runClaim (lease : Half) (policy : Byte) (e : Envelope) (s : State) : State × Answer :=
  match policyOf policy with
  | none => (s, .plain .badValue [])
  | some k =>
    if lease = 0 ∨ 600 < lease.toNat ∨ e.src = 0 then (s, .plain .badValue [])
    else match s.owner with
      | some o =>
        if o.addr = e.src then (grant e lease k s, .plain .done ([e.src] ++ bytes16 lease ++ [policy]))
        else (s, .plain .owned (o.addr :: bytes16 (BitVec.ofNat 16 o.lease)))
      | none => (grant e lease k s, .plain .done ([e.src] ++ bytes16 lease ++ [policy]))

/-- R142; the notice check that a grant brings about is made after its reply has been placed (R173). -/
def claimHandler (ps : List Byte) : Handler :=
  { step3 := lengthCheck 3 ps
    ownerOnly := false
    run := fun e s => runClaim (half (ps.getD 0 0) (ps.getD 1 0)) (ps.getD 2 0) e s
    after := fun a s => if a.isDone then offerNotice s else s }

/-- CLAIM (R142). -/
def execClaim (e : Envelope) (ps : List Byte) (s : State) : Host.Outcome State Fault Refusal :=
  requestRow (claimHandler ps) 0x02 e s

/-- R146: RENOUNCE. -/
def renounceHandler (ps : List Byte) : Handler :=
  { step3 := lengthCheck 0 ps, ownerOnly := true, run := fun _ s => (clearOwner s, .plain .done []), after := noAfter }

/-- RENOUNCE (R146). -/
def execRenounce (e : Envelope) (ps : List Byte) (s : State) : Host.Outcome State Fault Refusal :=
  requestRow (renounceHandler ps) 0x03 e s

/-! ## The settings record (R155 to R158) -/

/-- R156: SETTINGS-READ changes nothing. -/
def settingsReadHandler (ps : List Byte) : Handler :=
  { step3 := lengthCheck 0 ps, ownerOnly := false, run := fun _ s => (s, .plain .done (settingsBytes s.settings)),
    after := noAfter }

/-- SETTINGS_READ (R156). -/
def execSettingsRead (e : Envelope) (ps : List Byte) (s : State) : Host.Outcome State Fault Refusal :=
  requestRow (settingsReadHandler ps) 0x04 e s

/-- R157, R184: bit n is 1 for each field n of a carried record that lies outside its range. -/
def settingsFaults (ps : List Byte) : Byte :=
  (if (defaultOf (ps.getD 0 0)).isNone then 0x01 else 0) ||| (if (defaultOf (ps.getD 1 0)).isNone then 0x02 else 0)
  ||| (if (ps.getD 2 0).toNat < 4 then 0x04 else 0) ||| (if (ps.getD 3 0).toNat < 4 then 0x08 else 0)
  ||| (if ps.getD 4 0 = 0 then 0x10 else 0) ||| (if ps.getD 5 0 = 0 then 0x20 else 0)
  ||| (if half (ps.getD 6 0) (ps.getD 7 0) = 0 then 0x40 else 0)

/-- R184: the record carried at offsets 1..8, its fields in range. -/
def settingsOf (ps : List Byte) : Settings :=
  { defaults := ⟨(defaultOf (ps.getD 0 0)).getD .pass, (defaultOf (ps.getD 1 0)).getD .pass⟩
    bucketLimit := ⟨ps.getD 2 0, ps.getD 3 0⟩
    holdTime := ps.getD 4 0
    repeatTime := ps.getD 5 0
    ageLimit := half (ps.getD 6 0) (ps.getD 7 0) }

/-- R157: the check of every field, and the replacement of the whole record. -/
def runSettingsWrite (ps : List Byte) (s : State) : State × Answer :=
  if settingsFaults ps = 0 then
    ({ s with settings := settingsOf ps }, .plain .done (settingsBytes (settingsOf ps)))
  else (s, .plain .badValue [settingsFaults ps])

/-- R157: the new bucket limits act after the reply has been placed (R21). -/
def settingsWriteHandler (ps : List Byte) : Handler :=
  { step3 := lengthCheck 8 ps, ownerOnly := true, run := fun _ s => runSettingsWrite ps s,
    after := fun a s => if a.isDone then compareLimits s else s }

/-- SETTINGS_WRITE (R157). -/
def execSettingsWrite (e : Envelope) (ps : List Byte) (s : State) : Host.Outcome State Fault Refusal :=
  requestRow (settingsWriteHandler ps) 0x05 e s

/-! ## NOTICE-ACK (R164) -/

/-- R164: the pending set after an ack: a named event whose mark is clear is removed. -/
def ackEvents (set : BitVec 34) (x : NoticeUnit) : NoticeUnit :=
  { x with pending := x.pending &&& ~~~(set &&& ~~~x.marks) }

/-- R164: a set with a bit among 34..39 is refused; otherwise the ack acts. -/
def runNoticeAck (ps : List Byte) (s : State) : State × Answer :=
  let set := eventNumber (ps.getD 0 0) (ps.getD 1 0) (ps.getD 2 0) (ps.getD 3 0) (ps.getD 4 0)
  if set.toNat < 2 ^ 34 then
    ({ s with notice := ackEvents (set.setWidth 34) s.notice },
      .plain .done (eventBytes (ackEvents (set.setWidth 34) s.notice).pending))
  else (s, .plain .badValue [])

/-- R164. -/
def noticeAckHandler (ps : List Byte) : Handler :=
  { step3 := lengthCheck 5 ps, ownerOnly := true, run := fun _ s => runNoticeAck ps s, after := noAfter }

/-- NOTICE_ACK (R164). -/
def execNoticeAck (e : Envelope) (ps : List Byte) (s : State) : Host.Outcome State Fault Refusal :=
  requestRow (noticeAckHandler ps) 0x30 e s

/-! ## RESTART (R168) -/

/-- R168: the mark is set; it names this request's reply unless it already names one. -/
def restartHandler (ps : List Byte) : Handler :=
  { step3 := lengthCheck 0 ps, ownerOnly := true,
    run := fun _ s => ({ s with restartPending := true }, .reply .done [] (!s.restartPending)), after := noAfter }

/-- RESTART (R168). -/
def execRestart (e : Envelope) (ps : List Byte) (s : State) : Host.Outcome State Fault Refusal :=
  requestRow (restartHandler ps) 0x3F e s

end Sys2Proof.Machine
end

