-- ==== Sys2Proof/Machine/TableRequests.lean ====
section
/-! DEFINITION. The table requests (R57 to R60, R67, R73, R74, R159): ENTRY-READ, ENTRY-WRITE, ENTRY-CLEAR, BANK-COPY,
BANK-SWAP. -/

namespace Sys2Proof.Machine

/-! ## ENTRY-READ (R60) -/

/-- R184: the results of an executed ENTRY-READ of a bank. -/
def entryReadResults (m : MatchEngine) (k : BankId) (i : Fin 64) : List Byte :=
  [bankByte k] ++ entryBytes (m.bank k)[i] ++ bytes32 (m.bank k)[i].hits ++ [bankByte m.selector] ++ bytes16 m.stagingGen
  ++ [flagByte m.incomplete]

/-- R60: the checks and the read; a read of STAGING is refused BUSY while a copy runs. Where its index is above 63 as well, both
BAD-VALUE and BUSY apply and R60 and R69 give no order: BAD-VALUE is answered [log 32]. -/
def runEntryRead (role index : Byte) (s : State) : State × Answer :=
  match indexOfByte index with
  | none => (s, .plain .badValue [])
  | some i =>
    if role = 0 then (s, .plain .done (entryReadResults s.engine s.engine.selector i))
    else if role = 1 then
      if s.engine.copying then (s, .plain .busy [])
      else (s, .plain .done (entryReadResults s.engine s.engine.selector.other i))
    else (s, .plain .badValue [])

/-- R60. -/
def entryReadHandler (ps : List Byte) : Handler :=
  { step3 := lengthCheck 2 ps, ownerOnly := false, run := fun _ s => runEntryRead (ps.getD 0 0) (ps.getD 1 0) s,
    after := noAfter }

/-- ENTRY_READ (R60). -/
def execEntryRead (e : Envelope) (ps : List Byte) (s : State) : Host.Outcome State Fault Refusal :=
  requestRow (entryReadHandler ps) 0x10 e s

/-! ## ENTRY-WRITE (R57, R58) -/

/-- R57 step 2: a value of a carried entry record (its bytes at 0..11 of the list) out of its range. -/
def entryBadValue (r : List Byte) : Bool :=
  (entryPortsOf (r.getD 1 0)).isNone || decide (8 ≤ (r.getD 2 0).toNat) || (actionOf (r.getD 10 0)).isNone
  || ((r.getD 3 0).getLsbD 0 && decide (r.getD 8 0 = 255))
  || ((r.getD 3 0).getLsbD 2 && decide (32 ≤ (r.getD 11 0).toNat))

/-- R183, R184: the entry of a carried record, its hit count 0; an optional field whose presence bit is clear is absent. -/
def entryOfRecord (r : List Byte) : Entry :=
  { valid := (r.getD 0 0).getLsbD 0
    ports := (entryPortsOf (r.getD 1 0)).getD .either
    kData := (r.getD 2 0).getLsbD 0
    kPoll := (r.getD 2 0).getLsbD 1
    kAnswer := (r.getD 2 0).getLsbD 2
    tag := half (r.getD 4 0) (r.getD 5 0)
    mask := half (r.getD 6 0) (r.getD 7 0)
    src := if (r.getD 3 0).getLsbD 0 then some (r.getD 8 0) else none
    dest := if (r.getD 3 0).getLsbD 1 then some (r.getD 9 0) else none
    action := (actionOf (r.getD 10 0)).getD .pass
    slot := if (r.getD 3 0).getLsbD 2 then slotOfByte (r.getD 11 0) else none
    hits := 0 }

/-- R56: the actions that name a slot. -/
def Action.needsSlot : Action → Bool
  | .capture => true
  | .take => true
  | .answer => true
  | .learn => true
  | .pass => false
  | .drop => false

/-- R57 step 3: the fields of an entry do not fit together. -/
def entryUnfit (e : Entry) : Bool :=
  (!e.kData && !e.kPoll && !e.kAnswer)
  || (decide (e.action = .answer) && (e.kData || !e.kPoll || e.kAnswer))
  || (decide (e.action = .learn) && (e.kData || e.kPoll || !e.kAnswer))
  || (e.action.needsSlot != e.slot.isSome)

/-- R57, R58: the checks in their order, and the write. -/
def runEntryWrite (index : Byte) (r : List Byte) (s : State) : State × Answer :=
  if s.engine.copying then (s, .plain .busy [])
  else match indexOfByte index with
    | none => (s, .plain .badValue [])
    | some i =>
      if entryBadValue r then (s, .plain .badValue [])
      else if entryUnfit (entryOfRecord r) then (s, .plain .badEntry [])
      else ({ s with engine := s.engine.writeStaging i (entryOfRecord r) },
        .plain .done (bytes16 (s.engine.stagingGen + 1)))

/-- R57. -/
def entryWriteHandler (ps : List Byte) : Handler :=
  { step3 := lengthCheck 13 ps, ownerOnly := true, run := fun _ s => runEntryWrite (ps.getD 0 0) (ps.drop 1) s,
    after := noAfter }

/-- ENTRY_WRITE (R58). -/
def execEntryWrite (e : Envelope) (ps : List Byte) (s : State) : Host.Outcome State Fault Refusal :=
  requestRow (entryWriteHandler ps) 0x11 e s

/-! ## ENTRY-CLEAR (R59) -/

/-- R59, R184: an index, or FFH for ALL. Where the index is above 63 (and not FFH) while a copy runs, both BUSY and BAD-VALUE apply
and R59 gives no order: BUSY is answered, the model's choice [log 43]. -/
def runEntryClear (index : Byte) (s : State) : State × Answer :=
  if s.engine.copying then (s, .plain .busy [])
  else if index = 0xFF then
    ({ s with engine := s.engine.clearStaging }, .plain .done (bytes16 (s.engine.stagingGen + 1)))
  else match indexOfByte index with
    | none => (s, .plain .badValue [])
    | some i =>
      ({ s with engine := s.engine.writeStaging i Entry.cleared }, .plain .done (bytes16 (s.engine.stagingGen + 1)))

/-- R59. -/
def entryClearHandler (ps : List Byte) : Handler :=
  { step3 := lengthCheck 1 ps, ownerOnly := true, run := fun _ s => runEntryClear (ps.getD 0 0) s, after := noAfter }

/-- ENTRY_CLEAR (R59). -/
def execEntryClear (e : Envelope) (ps : List Byte) (s : State) : Host.Outcome State Fault Refusal :=
  requestRow (entryClearHandler ps) 0x12 e s

/-! ## BANK-COPY (R67) -/

/-- R67: the start of a copy; the held place is the reply room the request requires. -/
def startCopy (e : Envelope) (s : State) : State :=
  { s.setQueue e.port { s.queues.get e.port with held := true } with
    engine := { s.engine with copy := .running 0 e.port e.src e.seq } }

/-- R67, R69: a copy starts, or the request is refused BUSY. -/
def runBankCopy (e : Envelope) (s : State) : State × Answer :=
  if s.engine.copying then (s, .plain .busy []) else (startCopy e s, .copyStarted)

/-- R67. -/
def bankCopyHandler (ps : List Byte) : Handler :=
  { step3 := lengthCheck 0 ps, ownerOnly := true, run := runBankCopy, after := noAfter }

/-- BANK_COPY (R67). -/
def execBankCopy (e : Envelope) (ps : List Byte) (s : State) : Host.Outcome State Fault Refusal :=
  requestRow (bankCopyHandler ps) 0x13 e s

/-! ## BANK-SWAP (R73, R74) -/

/-- R73, R74: the checks in their order, and the swap. -/
def runBankSwap (expected : Half) (s : State) : State × Answer :=
  if s.engine.copying then (s, .plain .busy [])
  else if s.engine.incomplete then (s, .plain .incomplete [])
  else if expected ≠ s.engine.stagingGen then (s, .plain .stale (bytes16 s.engine.stagingGen))
  else ({ s with engine := s.engine.swap },
    .plain .done ([bankByte s.engine.swap.selector] ++ bytes16 s.engine.swap.stagingGen))

/-- R73. -/
def bankSwapHandler (ps : List Byte) : Handler :=
  { step3 := lengthCheck 2 ps, ownerOnly := true, run := fun _ s => runBankSwap (half (ps.getD 0 0) (ps.getD 1 0)) s,
    after := noAfter }

/-- BANK_SWAP (R74). -/
def execBankSwap (e : Envelope) (ps : List Byte) (s : State) : Host.Outcome State Fault Refusal :=
  requestRow (bankSwapHandler ps) 0x14 e s

end Sys2Proof.Machine
end

