-- ==== Sys2Proof/Machine/SlotRequests.lean ====
section
/-! DEFINITION. The slot requests (R81 to R83, R88 to R90, R93, R103, R105, R129, R160 to R163): SLOT-SETUP, SLOT-LOAD,
SLOT-READ, SLOT-RELEASE. -/

namespace Sys2Proof.Machine

/-! ## SLOT-SETUP (R81, R82) -/

/-- R152: step 3 of SLOT-SETUP: the length depends on the kind byte. -/
def setupLength (ps : List Byte) : Option Status :=
  if ps.length < 3 then some .badRequest
  else if ps.getD 1 0 = 0 ∨ ps.getD 1 0 = 1 then (if ps.length = 3 then none else some .badRequest)
  else if ps.getD 1 0 = 2 then (if ps.length = 5 then none else some .badRequest)
  else if ps.getD 1 0 = 3 then (if ps.length = 8 ∨ ps.length = 9 then none else some .badRequest)
  else none

/-- R81 checks 2 and 3, R160: the body a setup carries, its content empty (R82 step 3); none when the kind or a parameter is out
of range. The beacon timer starts from a full interval while the fallback latch is clear (R130). -/
def setupBody (latch : Bool) (ps : List Byte) : Option SlotBody :=
  if ps.getD 1 0 = 0 then some .unused
  else if ps.getD 1 0 = 1 then some (.capture .empty)
  else if ps.getD 1 0 = 2 then
    some (.answer { maxAge := half (ps.getD 3 0) (ps.getD 4 0), content := .none, age := 0 })
  else if ps.getD 1 0 = 3 then
    match beaconPortsOf (ps.getD 5 0) with
    | none => none
    | some q =>
      if half (ps.getD 6 0) (ps.getD 7 0) = 0 then none
      else some (.beacon
        { tag := half (ps.getD 3 0) (ps.getD 4 0), dest := ps.getD 8 255, ports := q,
          interval := half (ps.getD 6 0) (ps.getD 7 0), payload := [], seq := 0,
          timer := if latch then none else some (half (ps.getD 6 0) (ps.getD 7 0)).toNat })
  else none

/-- R82: an executed setup, in one event. -/
def setupSlot (n : Fin 32) (notify : Bool) (body : SlotBody) (s : State) : State :=
  withdraw (EntryBody.names n)
    { s.setSlot n { notify := notify, gen := s.slots[n].gen + 1, count := 0, body := body } with
      holdList := s.holdList.filter (fun m => decide (m ≠ n)) }

/-- R81, R82: the checks in their order, and the setup. -/
def runSlotSetup (ps : List Byte) (s : State) : State × Answer :=
  match slotOfByte (ps.getD 0 0) with
  | none => (s, .plain .badValue [])
  | some n =>
    if ps.getD 2 0 ≠ 0 ∧ ps.getD 2 0 ≠ 1 then (s, .plain .badValue [])
    else match setupBody s.latch ps with
      | none => (s, .plain .badValue [])
      | some body =>
        (setupSlot n (decide (ps.getD 2 0 = 1)) body s,
          .plain .done [slotByte n, kindByte body, s.slots[n].gen + 1])

/-- R81. -/
def slotSetupHandler (ps : List Byte) : Handler :=
  { step3 := setupLength ps, ownerOnly := true, run := fun _ s => runSlotSetup ps s, after := noAfter }

/-- SLOT_SETUP (R82). -/
def execSlotSetup (e : Envelope) (ps : List Byte) (s : State) : Host.Outcome State Fault Refusal :=
  requestRow (slotSetupHandler ps) 0x20 e s

/-! ## SLOT-LOAD (R103, R129, R161) -/

/-- R103, R129: the checks in their order, and the load by the slot's kind. -/
def runSlotLoad (ps : List Byte) (s : State) : State × Answer :=
  match slotOfByte (ps.getD 0 0) with
  | none => (s, .plain .badValue [])
  | some n =>
    if 33 < ps.length then (s, .plain .badValue [])
    else match s.slots[n].body with
      | .unused => (s, .plain .wrongKind [slotByte n, kindByte s.slots[n].body])
      | .capture _ => (s, .plain .wrongKind [slotByte n, kindByte s.slots[n].body])
      | .answer x =>
        (s.setSlot n { s.slots[n] with body := .answer { x with content := .loaded (ps.drop 1), age := 0 } },
          .plain .done [slotByte n, 0x01, s.slots[n].gen])
      | .beacon x =>
        (s.setSlot n { s.slots[n] with body := .beacon { x with payload := ps.drop 1 } },
          .plain .done [slotByte n, s.slots[n].gen])

/-- R152: every length from 2 to 60 passes step 3. -/
def slotLoadHandler (ps : List Byte) : Handler :=
  { step3 := if 1 ≤ ps.length ∧ ps.length ≤ 59 then none else some .badRequest, ownerOnly := true,
    run := fun _ s => runSlotLoad ps s, after := noAfter }

/-- SLOT_LOAD (R103). -/
def execSlotLoad (e : Envelope) (ps : List Byte) (s : State) : Host.Outcome State Fault Refusal :=
  requestRow (slotLoadHandler ps) 0x21 e s

/-! ## SLOT-READ (R88 to R90, R105, R129, R185) -/

/-- R185: the results of a read after the common bytes, by kind. -/
def bodyResults (holds : Nat) (b : SlotBody) : List Byte :=
  match b with
  | .unused => []
  | .capture .empty => [0, 0, 0, BitVec.ofNat 8 holds]
  | .capture (.full c o) => [1, flagByte o, 0, BitVec.ofNat 8 holds] ++ recordBytes c
  | .capture (.held c o q _) => [2, flagByte o, flagByte q.isSome, BitVec.ofNat 8 holds] ++ recordBytes c
  | .answer x =>
    bytes16 x.maxAge ++ [sourceByte x.content] ++ bytes16 x.age ++ [flagByte x.fresh,
      BitVec.ofNat 8 (answerBytes x.content).length] ++ answerBytes x.content
  | .beacon x =>
    bytes16 x.tag ++ [x.dest, beaconPortsByte x.ports] ++ bytes16 x.interval
    ++ [flagByte x.timer.isSome, x.seq, BitVec.ofNat 8 x.payload.length] ++ x.payload

/-- R185: the results of a DONE reply to SLOT-READ. -/
def slotResults (n : Fin 32) (s : State) : List Byte :=
  [slotByte n, kindByte s.slots[n].body, flagByte s.slots[n].notify, s.slots[n].gen] ++ bytes16 s.slots[n].count
  ++ bodyResults s.holdList.length s.slots[n].body

/-- R88, R105, R129: a read without hold changes nothing. -/
def runReadPlain (slot : Byte) (s : State) : State × Answer :=
  match slotOfByte slot with
  | none => (s, .plain .badValue [])
  | some n => (s, .plain .done (slotResults n s))

/-- R88. -/
def slotReadPlainHandler (slot : Byte) : Handler :=
  { step3 := none, ownerOnly := false, run := fun _ s => runReadPlain slot s, after := noAfter }

/-- SLOT_READ_WITHOUT_HOLD (R88). -/
def execSlotReadWithoutHold (e : Envelope) (slot : Byte) (s : State) : Host.Outcome State Fault Refusal :=
  requestRow (slotReadPlainHandler slot) 0x22 e s

/-- R89 case 6: a hold is placed on a FULL slot. -/
def placeHold (n : Fin 32) (c : CapturedRecord) (o : Bool) (s : State) : State :=
  { s.setSlot n { s.slots[n] with body := .capture (.held c o none s.settings.holdTime.toNat) } with
    holdList := s.holdList ++ [n] }

/-- R90: the lapse timer of a HELD slot restarts. -/
def restartHold (n : Fin 32) (c : CapturedRecord) (o : Bool) (q : Option CapturedRecord) (s : State) : State :=
  s.setSlot n { s.slots[n] with body := .capture (.held c o q s.settings.holdTime.toNat) }

/-- R89, R90: a read with hold, examined in order. -/
def runReadHold (slot : Byte) (s : State) : State × Answer :=
  match slotOfByte slot with
  | none => (s, .plain .badValue [])
  | some n =>
    match s.slots[n].body with
    | .capture .empty => (s, .plain .done (slotResults n s))
    | .capture (.held c o q _) => (restartHold n c o q s, .plain .done (slotResults n (restartHold n c o q s)))
    | .capture (.full c o) =>
      if 4 ≤ s.holdList.length then (s, .plain .holdsFull (s.holdList.map slotByte))
      else (placeHold n c o s, .plain .done (slotResults n (placeHold n c o s)))
    | b => (s, .plain .wrongKind [slotByte n, kindByte b])

/-- R89. -/
def slotReadHoldHandler (slot : Byte) : Handler :=
  { step3 := none, ownerOnly := true, run := fun _ s => runReadHold slot s, after := noAfter }

/-- SLOT_READ_WITH_HOLD (R89). -/
def execSlotReadWithHold (e : Envelope) (slot : Byte) (s : State) : Host.Outcome State Fault Refusal :=
  requestRow (slotReadHoldHandler slot) 0x22 e s

/-! ## SLOT-RELEASE (R93, R163) -/

/-- R93: what a release leaves of a held slot. -/
def releasedBody (q : Option CapturedRecord) : CaptureSlot :=
  match q with
  | some r => .full r false
  | none => .empty

/-- R93: a HELD slot is released, in one event. -/
def releaseSlot (n : Fin 32) (q : Option CapturedRecord) (s : State) : State :=
  { s.setSlot n { s.slots[n] with body := .capture (releasedBody q) } with
    holdList := s.holdList.filter (fun m => decide (m ≠ n)) }

/-- R93: the checks in their order, and the release. -/
def runSlotRelease (slot : Byte) (s : State) : State × Answer :=
  match slotOfByte slot with
  | none => (s, .plain .badValue [])
  | some n =>
    match s.slots[n].body with
    | .capture (.held _ _ q _) =>
      (releaseSlot n q s, .plain .done ([slotByte n, captureByte (releasedBody q)] ++ bytes16 s.slots[n].count))
    | .capture c => (s, .plain .notHeld [slotByte n, captureByte c])
    | b => (s, .plain .wrongKind [slotByte n, kindByte b])

/-- R93. -/
def slotReleaseHandler (ps : List Byte) : Handler :=
  { step3 := lengthCheck 1 ps, ownerOnly := true, run := fun _ s => runSlotRelease (ps.getD 0 0) s, after := noAfter }

/-- SLOT_RELEASE (R93). -/
def execSlotRelease (e : Envelope) (ps : List Byte) (s : State) : Host.Outcome State Fault Refusal :=
  requestRow (slotReleaseHandler ps) 0x23 e s

end Sys2Proof.Machine
end

