-- ==== Sys2Proof/Machine/Statistics.lean ====
section
/-! DEFINITION. STATS-READ (R166, R177, R186), and the dispatch of a request's payload by its code (R152, R182). -/

namespace Sys2Proof.Machine

/-- R183: the statistics groups. -/
inductive Group where
  | portA
  | portB
  | dirAB
  | dirBA
  | proxy
  | agent
  | slots0
  | slots1
deriving DecidableEq, Repr

/-- R183: a group by its byte. -/
def groupOf (b : Byte) : Option Group :=
  if b = 0 then some .portA else if b = 1 then some .portB else if b = 2 then some .dirAB else if b = 3 then some .dirBA
  else if b = 4 then some .proxy else if b = 5 then some .agent else if b = 6 then some .slots0
  else if b = 7 then some .slots1 else none

/-- R180: the slot counts of 16 slots in slot order. -/
def slotCountBytes (from_ : Nat) (v : Vector Slot 32) : List Byte :=
  (((v.toList.drop from_).take 16).map (fun x => bytes16 x.count)).flatten

/-- R186: the counters of a group in the group's order. -/
def groupBytes (g : Group) (s : State) : List Byte :=
  match g with
  | .portA => portCounterBytes s.portStats.a
  | .portB => portCounterBytes s.portStats.b
  | .dirAB => dirCounterBytes s.dirStats.ab s.paths.ab.highWater
  | .dirBA => dirCounterBytes s.dirStats.ba s.paths.ba.highWater
  | .proxy => proxyCounterBytes s.proxyStats
  | .agent => agentCounterBytes s.agentStats
  | .slots0 => slotCountBytes 0 s.slots
  | .slots1 => slotCountBytes 16 s.slots

/-- R166: the slot counts of 16 slots are set to 0. -/
def clearCounts (lo hi : Nat) (v : Vector Slot 32) : Vector Slot 32 :=
  allSlots.foldl (fun (w : Vector Slot 32) (n : Fin 32) =>
    if lo ≤ n.val ∧ n.val < hi then w.set n { w[n] with count := 0 } else w) v

/-- R166: a group and its high-water mark are set to 0. -/
def clearGroup (g : Group) (s : State) : State :=
  match g with
  | .portA => { s with portStats := s.portStats.set .a .zero }
  | .portB => { s with portStats := s.portStats.set .b .zero }
  | .dirAB => { s.setPath .ab { s.paths.ab with highWater := 0 } with dirStats := s.dirStats.set .ab .zero }
  | .dirBA => { s.setPath .ba { s.paths.ba with highWater := 0 } with dirStats := s.dirStats.set .ba .zero }
  | .proxy => { s with proxyStats := .zero }
  | .agent => { s with agentStats := .zero }
  | .slots0 => { s with slots := clearCounts 0 16 s.slots }
  | .slots1 => { s with slots := clearCounts 16 32 s.slots }

/-- R166: a read of a group, its results taken before it is cleared. -/
def runStats (clear : Bool) (group : Byte) (s : State) : State × Answer :=
  match groupOf group with
  | none => (s, .plain .badValue [])
  | some g => (if clear then clearGroup g s else s, .plain .done (group :: groupBytes g s))

/-- R166: STATS-READ without clear is open to any manager. -/
def statsPlainHandler (group : Byte) : Handler :=
  { step3 := none, ownerOnly := false, run := fun _ s => runStats false group s, after := noAfter }

/-- R166: STATS-READ with clear is owner-only. -/
def statsClearHandler (group : Byte) : Handler :=
  { step3 := none, ownerOnly := true, run := fun _ s => runStats true group s, after := noAfter }

/-- STATS_READ_WITHOUT_CLEAR (R166). -/
def execStatsReadWithoutClear (e : Envelope) (group : Byte) (s : State) : Host.Outcome State Fault Refusal :=
  requestRow (statsPlainHandler group) 0x31 e s

/-- STATS_READ_WITH_CLEAR (R166). -/
def execStatsReadWithClear (e : Envelope) (group : Byte) (s : State) : Host.Outcome State Fault Refusal :=
  requestRow (statsClearHandler group) 0x31 e s

/-! ## A request by its payload -/

/-- R152: a request that step 3 refuses. -/
def refusedHandler (st : Status) : Handler :=
  { step3 := some st, ownerOnly := false, run := fun _ s => (s, .plain st []), after := noAfter }

/-- R140, R152: a SLOT-READ or STATS-READ by its parameters: the selection byte chooses; another value is BAD-VALUE. A payload too
long whose selection byte is undefined meets both BAD-REQUEST for its length (R152, R182) and BAD-VALUE (R140, R162, R166), each at
step 3 of R137 with no order given: the length is checked first and BAD-REQUEST answered, the model's choice [log 44]. -/
def selectHandler (without withIt : Byte → Handler) (ps : List Byte) : Handler :=
  match ps with
  | [x, y] => if y = 0 then without x else if y = 1 then withIt x else refusedHandler .badValue
  | _ => refusedHandler .badRequest

/-- R152, R182: the request a code byte and the further payload bytes stand for; an unknown code is BAD-REQUEST. -/
def handlerOf (code : Byte) (ps : List Byte) : Handler :=
  if code = 0x01 then identHandler ps
  else if code = 0x02 then claimHandler ps
  else if code = 0x03 then renounceHandler ps
  else if code = 0x04 then settingsReadHandler ps
  else if code = 0x05 then settingsWriteHandler ps
  else if code = 0x10 then entryReadHandler ps
  else if code = 0x11 then entryWriteHandler ps
  else if code = 0x12 then entryClearHandler ps
  else if code = 0x13 then bankCopyHandler ps
  else if code = 0x14 then bankSwapHandler ps
  else if code = 0x20 then slotSetupHandler ps
  else if code = 0x21 then slotLoadHandler ps
  else if code = 0x22 then selectHandler slotReadPlainHandler slotReadHoldHandler ps
  else if code = 0x23 then slotReleaseHandler ps
  else if code = 0x30 then noticeAckHandler ps
  else if code = 0x31 then selectHandler statsPlainHandler statsClearHandler ps
  else if code = 0x3F then restartHandler ps
  else refusedHandler .badRequest

/-- UNKNOWN_REQUEST (R152): a payload taken as it stands: a code that is none of the seventeen, 80H included, is answered
BAD-REQUEST; a known code is the request it names [log 5]. -/
def execUnknownRequest (e : Envelope) (code : Byte) (ps : List Byte) (s : State) : Host.Outcome State Fault Refusal :=
  requestRow (handlerOf code ps) code e s

/-- R135, R149: the end of a frame the agent has been receiving. A frame that ended other than GOOD is discarded. -/
def agentEnd (p : Port) (cls : EndClass) (s : State) : State :=
  match s.inbox.get p with
  | none => s
  | some x =>
    if cls = .good then
      match x.kind, x.payload with
      | .request copy, code :: ps =>
        agentRequest (handlerOf code ps) code { port := p, src := x.src, seq := x.seq, copy := copy } (s.setInbox p none)
      | .assign, n :: _ => assignEnd p n (s.setInbox p none)
      | _, [] => s.setInbox p none
    else s.setInbox p none

end Sys2Proof.Machine
end

