-- ==== Sys2Proof/Machine/Line.lean ====
section
/-! DEFINITION. The receivers (section 1.4) and what a port does with a symbol or a code error by its state (R18, R19): the
commands RECEIVE_SOF, RECEIVE_DATA_BYTE, RECEIVE_EOF, RECEIVE_ABORT, RECEIVE_IDLE and CODE_ERROR. -/

namespace Sys2Proof.Machine

/-- R8, R11: an SOF begins a frame; the short-gap mark follows the gap count. -/
def startFrame (now : Wide) (r : Receiver) : Receiver :=
  { delim := .header, gapCount := r.gapCount, byteCount := 0, header := [], check := 0xFFFF, checkBytes := [],
    sofTime := now, shortGap := decide (r.gapCount < 2) }

/-- R8: a symbol in GAP that begins no frame. -/
def gapSymbol (r : Receiver) : Receiver := { r with gapCount := min 2 (r.gapCount + 1) }

/-- R1, R20: what a code error adds to the bucket by itself. -/
def errorCount (x : LineEvent) : Nat := if x = .codeError then 1 else 0

/-- R13, R178: count a frame's end in its class. -/
def countEnd (p : Port) (cls : EndClass) (s : State) : State :=
  match cls with
  | .good => s.bumpPort p (fun c => { c with good := satInc c.good })
  | .badCheck => s.bumpPort p (fun c => { c with badCheck := satInc c.badCheck })
  | .runt => s.bumpPort p (fun c => { c with runt := satInc c.runt })
  | .length => s.bumpPort p (fun c => { c with length := satInc c.length })
  | .aborted => s.bumpPort p (fun c => { c with aborted := satInc c.aborted })

/-- R8, R11: the receiver after a frame's end: GAP with gap count 0, or the next frame when an SOF ended this one. -/
def rxAfterEnd (now : Wide) (x : LineEvent) (r : Receiver) : Receiver :=
  if x = .symbol .sof then startFrame now (endedRx r) else endedRx r

/-- R11: a frame with the short-gap mark ends as ABORTED whatever ends it. -/
def endClass (r : Receiver) (cls : EndClass) : EndClass := if r.shortGap then .aborted else cls

/-- R13: a frame ends at a symbol: the receiver moves on, the end is counted, the relay path and the agent take it, the bucket
takes its additions together (R20), and a join may become possible (R26). The path and the agent take the end before the bucket
its addition, so a reservation lost at an end that fills the bucket is settled before the entry to BYPASS [log 18]. The end is
counted before the agent executes the request that it closes: a STATS-READ of its own arrival port reads, and clears, its own
frame's good end as well. R13 and R166 give no order; the model's choice [log 40]. -/
def frameEnd (p : Port) (cls : EndClass) (x : LineEvent) (s : State) : State :=
  joinCheck (bucketAdd p ((if cls = .good then 0 else 1) + errorCount x)
    (agentEnd p cls (closeFlight p cls (countEnd p cls
      (s.setRx p (rxAfterEnd s.timestamp x (s.rx.get p)))))))

/-- R9: the receiver after a header byte. -/
def headerRx (b : Byte) (r : Receiver) : Receiver :=
  { r with header := r.header ++ [b], byteCount := r.byteCount + 1, check := checkByte r.check b }

/-- R9, R11: a data byte in HEADER. A header whose len is out of range is reported with its end (R9) and decided by nobody: for an
unknown kind the model takes this for no report in the sense of R38 and R53, and counts no unknown-kind [log 36]. -/
def headerByte (p : Port) (b : Byte) (s : State) : State :=
  let r := headerRx b (s.rx.get p)
  if r.byteCount < 8 then s.setRx p r
  else if lenAccepted (headerOf r.header) then
    let s' := s.setRx p { r with delim := .body }
    if r.shortGap then s' else headerReport p (headerOf r.header) r.sofTime s'
  else if r.shortGap then frameEnd p .aborted (.symbol (.data b)) (s.setRx p r)
  else frameEnd p .length (.symbol (.data b)) (lengthAtHeader p (s.setRx p r))

/-- R10: the number of data bytes a frame in BODY has in all. -/
def frameTotal (r : Receiver) : Nat := 10 + (headerOf r.header).len.toNat

/-- R10: the receiver after a byte in BODY: payload bytes enter the check register, the last two are the check. -/
def bodyRx (b : Byte) (r : Receiver) : Receiver :=
  if r.byteCount + 2 < frameTotal r then { r with byteCount := r.byteCount + 1, check := checkByte r.check b }
  else { r with byteCount := r.byteCount + 1, checkBytes := r.checkBytes ++ [b] }

/-- R10, R11: a data byte in BODY. -/
def bodyByte (p : Port) (b : Byte) (s : State) : State :=
  let r := s.rx.get p
  if r.byteCount < frameTotal r then
    let s' := s.setRx p (bodyRx b r)
    if r.shortGap then s' else relayByte p b (decide (r.byteCount + 2 < frameTotal r)) s'
  else frameEnd p (endClass r .length) (.symbol (.data b)) s

/-- R10: the class at an EOF in BODY. -/
def eofClass (r : Receiver) : EndClass :=
  if r.byteCount < frameTotal r then .length
  else if r.checkBytes = bytes16 r.check then .good
  else .badCheck

/-- R8 to R11: the delimiter of a SYNCED port takes a symbol or a code error. -/
def delimit (p : Port) (x : LineEvent) (s : State) : State :=
  let r := s.rx.get p
  match r.delim, x with
  | .gap, .symbol .sof => s.setRx p (startFrame s.timestamp r)
  | .gap, _ => bucketAdd p (errorCount x) (s.setRx p (gapSymbol r))
  | .header, .symbol (.data b) => headerByte p b s
  | .header, _ => frameEnd p (endClass r .runt) x s
  | .body, .symbol (.data b) => bodyByte p b s
  | .body, .symbol .eof => frameEnd p (endClass r (eofClass r)) x s
  | .body, _ => frameEnd p .aborted x s

/-- R18: a SYNCING port counts consecutive IDLE symbols. -/
def synchronise (p : Port) (x : LineEvent) (s : State) : State :=
  if x = .symbol .idle then
    if 32 ≤ (s.ports.get p).syncIdle + 1 then portSynced p s
    else s.setPort p { s.ports.get p with syncIdle := (s.ports.get p).syncIdle + 1 }
  else s.setPort p { s.ports.get p with syncIdle := 0 }

/-- R13, R178: a code error is counted in SYNCING, SYNCED and FAULT. -/
def countCodeError (p : Port) (x : LineEvent) (s : State) : State :=
  if x = .codeError then s.bumpPort p (fun c => { c with codeErrors := satInc c.codeErrors }) else s

/-- R19: what a port does with a byte time, by its state. -/
def receive (p : Port) (x : LineEvent) (s : State) : State :=
  match (s.ports.get p).state with
  | .down => s
  | .syncing => synchronise p x (countCodeError p x s)
  | .synced => delimit p x (countCodeError p x s)
  | .fault => countCodeError p x s

/-- A byte time of a receiver, with the restart its effects may bring about (R169); none while RESET is asserted (R23). -/
def receiveRow (p : Port) (x : LineEvent) (s : State) : Host.Outcome State Fault Refusal :=
  if s.resetPin then .next s else .next (settleRestart (receive p x s))

/-- RECEIVE_SOF (R8, R11). -/
def execReceiveSof (p : Port) (s : State) : Host.Outcome State Fault Refusal := receiveRow p (.symbol .sof) s

/-- RECEIVE_DATA_BYTE (R9, R10). -/
def execReceiveDataByte (p : Port) (b : Byte) (s : State) : Host.Outcome State Fault Refusal :=
  receiveRow p (.symbol (.data b)) s

/-- RECEIVE_EOF (R10). -/
def execReceiveEof (p : Port) (s : State) : Host.Outcome State Fault Refusal := receiveRow p (.symbol .eof) s

/-- RECEIVE_ABORT (R10). -/
def execReceiveAbort (p : Port) (s : State) : Host.Outcome State Fault Refusal := receiveRow p (.symbol .abort) s

/-- RECEIVE_IDLE (R8, R18). -/
def execReceiveIdle (p : Port) (s : State) : Host.Outcome State Fault Refusal := receiveRow p (.symbol .idle) s

/-- CODE_ERROR (R1). -/
def execCodeError (p : Port) (s : State) : Host.Outcome State Fault Refusal := receiveRow p .codeError s

end Sys2Proof.Machine
end

