-- ==== Sys2Proof/Machine/Output.lean ====
section
/-! DEFINITION. The outputs (sections 1.5, 3.6, 7.3): the arbitration, the move-out of each source, the transmitter. -/

namespace Sys2Proof.Machine

/-- R49: the output of a port takes its choice: FREE, in RELAY or FALLBACK. -/
def mayStart (p : Port) (s : State) : Bool := s.relay.relays && (s.paths.get (dirOut p)).tx.isFree

/-- R49 condition 1: the detour store holds a frame; at a FREE output its SOF has not been sent. -/
def canStartThrough (p : Port) (s : State) : Bool := mayStart p s && !(s.paths.get (dirOut p)).store.isEmpty

/-- R49 condition 2, but for the READY entry: the store is empty and the receiver that feeds the output is in GAP. -/
def canInject (p : Port) (s : State) : Bool :=
  mayStart p s && (s.paths.get (dirOut p)).store.isEmpty && decide ((s.rx.get (otherPort p)).delim = .gap)

/-- R49: the head frame is started: its SOF goes out in the next byte time. -/
def startThrough (p : Port) (s : State) : State :=
  s.setPath (dirOut p) { s.paths.get (dirOut p) with tx := .through false }

/-- R125: a built frame is handed to the transmitter; its SOF goes out in the next byte time. -/
def startInjection (p : Port) (bytes : List Byte) (named : Bool) (s : State) : State :=
  s.setPath (dirOut p) { s.paths.get (dirOut p) with tx := .injection false bytes named }

/-- R111, R100: the payload an answer slot gives at move-out (empty where the entry's slot is no answer slot, which R111 says
does not happen [log 30]). -/
def answerPayload (x : Slot) : List Byte :=
  match x.body with
  | .answer y => answerBytes y.content
  | _ => []

/-- R111: the age an answer slot gives at move-out. -/
def answerAge (x : Slot) : Half :=
  match x.body with
  | .answer y => y.age
  | _ => 0

/-- R132: the frame of a beacon entry, built from its slot; the beacon seq advances. -/
def moveBeacon (p : Port) (n : Fin 32) (s : State) : State :=
  match s.slots[n].body with
  | .beacon y =>
    startInjection p (buildFrame 1 y.dest s.ownAddr y.seq y.tag 0 y.payload) false
      (s.setSlot n { s.slots[n] with body := .beacon { y with seq := y.seq + 1 } })
  | _ => startInjection p (buildFrame 1 0 s.ownAddr 0 0 0 []) false s

/-- R174: the NOTICE frame is built, the set is latched, the number advances, the repeat timer starts. -/
def moveNotice (p : Port) (s : State) : State :=
  startInjection p
    (buildFrame 9 (ownerByte s.owner) s.ownAddr s.notice.number 0 0 ([0x80, 0x00] ++ eventBytes s.notice.pending)) false
    { s with notice := { s.notice with
      marks := 0, number := s.notice.number + 1, repeatTimer := some s.settings.repeatTime.toNat } }

/-- R51: an injection is counted at move-out by its source. -/
def countInjected (p : Port) (x : Source) (s : State) : State :=
  match x with
  | .answer => s.bumpDir (dirOut p) (fun c => { c with injectedAnswer := satInc c.injectedAnswer })
  | .mreply => s.bumpDir (dirOut p) (fun c => { c with injectedReply := satInc c.injectedReply })
  | .notice => s.bumpDir (dirOut p) (fun c => { c with injectedReply := satInc c.injectedReply })
  | .assign => s.bumpDir (dirOut p) (fun c => { c with injectedReply := satInc c.injectedReply })
  | .beacon => s.bumpDir (dirOut p) (fun c => { c with injectedBeacon := satInc c.injectedBeacon })

/-- R125: the frame of an entry is built and started. -/
def startEntry (p : Port) (b : EntryBody) (s : State) : State :=
  match b with
  | .answer n _ _ src dest seq tag =>
    startInjection p (buildFrame 3 src dest seq tag (auxOfAge (answerAge s.slots[n])) (answerPayload s.slots[n])) false s
  | .mreply dest src seq payload named => startInjection p (buildFrame 9 dest src seq 0 0 payload) named s
  | .notice => moveNotice p s
  | .assign x => startInjection p (buildFrame 10 255 s.ownAddr 0 0 0 [x]) false s
  | .beacon n => moveBeacon p n s

/-- R125: one entry leaves its queue and its frame is fixed, in one event. -/
def moveOut (p : Port) (e : QEntry) (rest : List QEntry) (s : State) : State :=
  countInjected p e.body.source (startEntry p e.body (s.setQueue p { s.queues.get p with entries := rest }))

/-- R49, R122: the move-out of the selected entry, when condition 2 holds and the entry is of the given source. -/
def moveOutFrom (x : Source) (p : Port) (s : State) : State :=
  if canInject p s && !s.resetPin then
    match selectEntry (s.queues.get p).entries with
    | some (e, rest) => if e.body.isFrom x then moveOut p e rest s else s
    | none => s
  else s

/-- MOVE_OUT_ANSWER (R111). -/
def execMoveOutAnswer (p : Port) (s : State) : Host.Outcome State Fault Refusal := .next (moveOutFrom .answer p s)

/-- MOVE_OUT_MREPLY (R125). -/
def execMoveOutMreply (p : Port) (s : State) : Host.Outcome State Fault Refusal := .next (moveOutFrom .mreply p s)

/-- MOVE_OUT_NOTICE (R174). -/
def execMoveOutNotice (p : Port) (s : State) : Host.Outcome State Fault Refusal := .next (moveOutFrom .notice p s)

/-- MOVE_OUT_ASSIGN (R125). -/
def execMoveOutAssign (p : Port) (s : State) : Host.Outcome State Fault Refusal := .next (moveOutFrom .assign p s)

/-- MOVE_OUT_BEACON (R132). -/
def execMoveOutBeacon (p : Port) (s : State) : Host.Outcome State Fault Refusal := .next (moveOutFrom .beacon p s)

/-- THROUGH_FRAME_START (R49 condition 1). -/
def execThroughFrameStart (p : Port) (s : State) : Host.Outcome State Fault Refusal :=
  if canStartThrough p s && !s.resetPin then .next (startThrough p s) else .next s

/-- R49: the arbitration, where a condition holds at a byte time and no command has taken it yet [log 16]. -/
def arbitrate (p : Port) (s : State) : State :=
  if canStartThrough p s then startThrough p s
  else if canInject p s then
    match selectEntry (s.queues.get p).entries with
    | some (e, rest) => moveOut p e rest s
    | none => s
  else s

/-- The transmitter sends a symbol. -/
def sendSymbol (p : Port) (x : Symbol) (tx : Tx) (s : State) : State :=
  s.setPath (dirOut p) { s.paths.get (dirOut p) with tx := tx, line := some x }

/-- R43, R53: a through-frame's end symbol is sent and counted. -/
def sendMark (p : Port) (m : EndMark) (rest : List StoredFrame) (s : State) : State :=
  match m with
  | .eof =>
    ((sendSymbol p .eof (.between 0) s).setStore (dirOut p) rest).bumpDir (dirOut p)
      (fun c => { c with forwarded := satInc c.forwarded })
  | .abort =>
    ((sendSymbol p .abort (.between 0) s).setStore (dirOut p) rest).bumpDir (dirOut p)
      (fun c => { c with poisoned := satInc c.poisoned })

/-- R41, R16: the next place of the head frame; where it has not arrived, nothing is sent [log 15]. -/
def sendPlace (p : Port) (s : State) : State :=
  match (s.paths.get (dirOut p)).store with
  | { bytes := b :: bs, mark := m } :: fs =>
    (sendSymbol p (.data b) (.through true) s).setStore (dirOut p) ({ bytes := bs, mark := m } :: fs)
  | { bytes := [], mark := some m } :: fs => sendMark p m fs s
  | { bytes := [], mark := none } :: _ => s
  | [] => s

/-- R14, R48: one byte time of a transmitter that may send on the line. -/
def sendNext (p : Port) (s : State) : State :=
  match (s.paths.get (dirOut p)).tx with
  | .between n => sendSymbol p .idle (.between (min 2 (n + 1))) s
  | .through false => sendSymbol p .sof (.through true) s
  | .through true => sendPlace p s
  | .injection false bs m => sendSymbol p .sof (.injection true bs m) s
  | .injection true (b :: bs) m => sendSymbol p (.data b) (.injection true bs m) s
  | .injection true [] _ => sendSymbol p .eof (.between 0) s
  | .closing _ => sendSymbol p .abort (.between 2) s

/-- R28, R25: one byte time in BYPASS: a closing ABORT if one is due, else silence; the BYPASS output is asserted once no
closing symbol is left [log 20]. The closing ABORT counts nothing: a through-frame was counted poisoned at the entry to BYPASS, and one
that a RESTART ended is not counted, the model's choice [log 42]. -/
def sendInBypass (p : Port) (s : State) : State :=
  let s' := if (s.paths.get (dirOut p)).tx.isClosing then sendSymbol p .abort (.between 2) s
            else s.setPath (dirOut p) { s.paths.get (dirOut p) with line := none }
  { s' with bypassPin := s'.bypassPin || !(s'.paths.ab.tx.isClosing || s'.paths.ba.tx.isClosing) }

/-- R24: one byte time of a transmitter, by relay state. -/
def transmit (p : Port) (s : State) : State :=
  match s.relay with
  | .bypass => sendInBypass p s
  | .joining => sendNext p s
  | .relay => sendNext p (arbitrate p s)
  | .fallback => sendNext p (arbitrate p s)

/-- TRANSMIT_SYMBOL (R48); the end symbol of the reply a restart waits for begins the restart (R169). -/
def execTransmitSymbol (p : Port) (s : State) : Host.Outcome State Fault Refusal :=
  if s.resetPin then .next s else .next (settleRestart (transmit p s))

end Sys2Proof.Machine
end

