-- ==== Sys2Proof/Machine/Time.lean ====
section
/-! DEFINITION. The time base (section 2.8) and everything its ticks drive: age-out, beacon expiries, hold lapse, the notice repeat
timer, the lease, the 1, 10 and 100 ms ticks, the timestamp and the divider. A tick falls when the divider brings it [log 7]; it
counts, and what runs out at it happens in its event; each expiry is a command of its own as well [log 2] [log 3]. -/

namespace Sys2Proof.Machine

/-! ## Age-out (R123) -/

/-- R123: a queue withdraws every entry whose age exceeds the limit, counted stale-aged. -/
def ageOutQueue (p : Port) (s : State) : State :=
  (s.setQueue p { s.queues.get p with
    entries := (s.queues.get p).entries.filter (fun e => !e.overAge s.timestamp s.settings.ageLimit) }).bumpDir (dirOut p)
    (fun c => { c with
      staleAged := satAdd c.staleAged
        ((s.queues.get p).entries.filter (fun e => e.overAge s.timestamp s.settings.ageLimit)).length })

/-- R123, R173: whether an age-out withdraws a NOTICE entry from a queue. -/
def noticeOverAge (p : Port) (s : State) : Bool :=
  (s.queues.get p).entries.any (fun e => e.body.isFrom .notice && e.overAge s.timestamp s.settings.ageLimit)

/-- R123: age-out of one queue; a withdrawn NOTICE entry has the notice condition checked again (R173). -/
def ageOut (p : Port) (s : State) : State :=
  if noticeOverAge p s then offerNotice (ageOutQueue p s) else ageOutQueue p s

/-- R123: age-out of both queues at a tick. R123 and R173 do not order the notice check that follows a withdrawn NOTICE against
the other queue's own age-out: the check is made once, after both [log 13]. -/
def ageOutBoth (s : State) : State :=
  if noticeOverAge .a s || noticeOverAge .b s then offerNotice (ageOutQueue .b (ageOutQueue .a s))
  else ageOutQueue .b (ageOutQueue .a s)

/-- QUEUE_AGE_OUT (R123); a withdrawn reply may be the one a restart waits for (R169). -/
def execQueueAgeOut (p : Port) (s : State) : Host.Outcome State Fault Refusal :=
  if s.resetPin then .next s else .next (settleRestart (ageOut p s))

/-! ## Beacons (R130, R131) -/

/-- R131: a late expiry on one port. -/
def lateExpiry (n : Fin 32) (s : State) : State :=
  slotEvent n (s.setSlot n { s.slots[n] with count := satInc s.slots[n].count })

/-- R131: an expiry acts on one port: an entry is placed, or the expiry is late. -/
def expireOn (n : Fin 32) (p : Port) (s : State) : State :=
  if s.relay = .relay ∧ (s.queues.get p).room = true ∧ (entryOfSlot n (s.queues.get p).entries) = none then
    place p (.beacon n) s
  else lateExpiry n s

/-- R131: the expiry of a BEACON slot acts once for each port its ports field names. -/
def fireBeacon (n : Fin 32) (s : State) : State :=
  match s.slots[n].body with
  | .beacon y => y.ports.list.foldl (fun t p => expireOn n p t) s
  | _ => s

/-- BEACON_EXPIRY (R131): of a RUNNING timer, which then runs a full interval again (R130) [log 3]. -/
def execBeaconExpiry (n : Fin 32) (s : State) : Host.Outcome State Fault Refusal :=
  if s.resetPin = false ∧ s.slots[n].beaconTimer ≠ none then
    .next (fireBeacon n (s.setSlot n (startBeacon s.slots[n])))
  else .next s

/-- R130: whether a slot's timer expires at this tick. -/
def beaconDue (x : Slot) : Bool :=
  match x.beaconTimer with
  | some k => decide (k ≤ 1)
  | none => false

/-- R130: a RUNNING timer counts one tick; one that expires starts its next period. -/
def countBeacon (x : Slot) : Slot :=
  match x.body with
  | .beacon y =>
    match y.timer with
    | none => x
    | some k => if k ≤ 1 then startBeacon x else { x with body := .beacon { y with timer := some (k - 1) } }
  | _ => x

/-- Insert a slot number by rank. -/
def insertByRank (rank : Nat → Nat) (n : Fin 32) : List (Fin 32) → List (Fin 32)
  | [] => [n]
  | m :: ms => if rank n.val ≤ rank m.val then n :: m :: ms else m :: insertByRank rank n ms

/-- The order in which the timers that expire at one tick act: a free choice where there are two or more [log 11]. -/
def orderByRank (rank : Nat → Nat) : List (Fin 32) → List (Fin 32)
  | [] => []
  | n :: ns => insertByRank rank n (orderByRank rank ns)

/-- R131: the expiries of one tick, in their free order. -/
def fireBeacons (choice : Nat) (due : List (Fin 32)) (s : State) : State :=
  (orderByRank (Config.beaconRank choice) due).foldl (fun t n => fireBeacon n t) s

/-! ## The 1 ms tick (R34) -/

/-- R20: a bucket falls by 1 unless it stands at 0. -/
def drainPort (x : PortBlock) : PortBlock := { x with bucket := x.bucket - 1 }

/-- R101: the age of an answer slot with a payload advances by 1 ms, stopping at 65535. -/
def ageSlot (x : Slot) : Slot :=
  match x.body with
  | .answer y => if y.content = .none then x else { x with body := .answer { y with age := satInc y.age } }
  | _ => x

/-- R22: the cool-down timer of a port counts one tick. -/
def tickCoolDown (p : Port) (s : State) : State :=
  match (s.ports.get p).coolDown with
  | none => s
  | some k =>
    if k ≤ 1 then coolDownEnd p s else s.setPort p { s.ports.get p with coolDown := some (k - 1) }

/-- R27: the settle timer counts one tick. -/
def tickSettle (s : State) : State :=
  match s.settle with
  | none => s
  | some k => if k ≤ 1 then settleExpiry s else { s with settle := some (k - 1) }

/-- R20, R101, R130: what a 1 ms tick counts before anything expires. -/
def countTick (s : State) : State :=
  { s with
    ports := ⟨drainPort s.ports.a, drainPort s.ports.b⟩
    slots := mapVec (fun x => countBeacon (ageSlot x)) s.slots }

/-- Whether the order of beacon expiries against the settle expiry or an age-out matters at this tick. -/
def orderMatters (s : State) : Bool :=
  decide (s.settle = some 1) || decide (s.settle = some 0)
    || (s.queues.a.entries ++ s.queues.b.entries).any (fun e => e.overAge s.timestamp s.settings.ageLimit)

/-- R34: a 1 ms tick. The beacon timers that run out are read before anything is counted, so a timer started in this event
counts from the next tick. With an interval of 1 ms, a timer that a SLOT-SETUP has started just before the tick expires at it: R130
says so, R131 says that the expiry does not occur. The model's choice [log 38]. -/
def tick1ms (s : State) : State :=
  let due := allSlots.filter (fun n => beaconDue s.slots[n])
  let s1 := tickCoolDown .b (tickCoolDown .a (countTick s))
  match due with
  | [] => ageOutBoth (tickSettle s1)
  | _ =>
    let s2 := { s1 with freeCount := s1.freeCount + 1 }
    if orderMatters s && Config.beaconsFirst s.freeCount then
      ageOutBoth (tickSettle (fireBeacons s.freeCount due s2))
    else fireBeacons s.freeCount due (ageOutBoth (tickSettle s2))

/-- R34: the 1 ms tick that is due is taken, with the restart its age-outs may bring about (R169). -/
def takeTick1 (s : State) : State :=
  if s.due.one then settleRestart (tick1ms { s with due := { s.due with one := false } }) else s

/-- TICK_1MS (R34): the tick the divider has brought; where none is due the command is no tick [log 4] [log 7]. -/
def execTick1ms (s : State) : Host.Outcome State Fault Refusal :=
  if s.resetPin then .next s else .next (takeTick1 s)

/-! ## The 10 ms tick (R34) -/

/-- R92: whether a slot's lapse timer expires at this tick. -/
def lapseDue (x : Slot) : Bool :=
  match x.body with
  | .capture (.held _ _ _ k) => decide (k ≤ 1)
  | _ => false

/-- R92: a lapse timer that does not expire counts one tick. -/
def countLapse (x : Slot) : Slot :=
  match x.body with
  | .capture (.held c o q k) => if k ≤ 1 then x else { x with body := .capture (.held c o q (k - 1)) }
  | _ => x

/-- R95: the lapse timers count, and the holds whose timer runs out lapse. With a hold time of 1 unit, a timer that a hold read has
restarted just before the tick expires at it: R92 says so, R96 says that it does not expire. The model's choice [log 37]. -/
def tickHolds (s : State) : State :=
  (allSlots.filter (fun n => lapseDue s.slots[n])).foldl (fun t n => lapse n t)
    { s with slots := mapVec countLapse s.slots }

/-- R175: the repeat timer expires: STOPPED, and the notice condition is checked. -/
def repeatExpiry (s : State) : State := offerNotice { s with notice := { s.notice with repeatTimer := none } }

/-- R175: the repeat timer counts one tick. -/
def tickRepeat (s : State) : State :=
  match s.notice.repeatTimer with
  | none => s
  | some k =>
    if k ≤ 1 then repeatExpiry s else { s with notice := { s.notice with repeatTimer := some (k - 1) } }

/-- R34, R173: a 10 ms tick; the notice condition is checked at every one. -/
def tick10ms (s : State) : State := offerNotice (tickRepeat (tickHolds s))

/-- R34: the 10 ms tick that is due is taken. -/
def takeTick10 (s : State) : State :=
  if s.due.ten then tick10ms { s with due := { s.due with ten := false } } else s

/-- TICK_10MS (R34): the tick the divider has brought; where none is due the command is no tick [log 4] [log 7]. -/
def execTick10ms (s : State) : Host.Outcome State Fault Refusal :=
  if s.resetPin then .next s else .next (takeTick10 s)

/-- HOLD_TIMER_EXPIRY (R95): that one hold lapses; a slot that is not HELD has no lapse timer. -/
def execHoldTimerExpiry (n : Fin 32) (s : State) : Host.Outcome State Fault Refusal :=
  if s.resetPin then .next s else .next (lapse n s)

/-- NOTICE_REPEAT_EXPIRY (R175): of a RUNNING timer [log 3]. -/
def execNoticeRepeatExpiry (s : State) : Host.Outcome State Fault Refusal :=
  if s.resetPin = false ∧ s.notice.repeatTimer ≠ none then .next (repeatExpiry s) else .next s

/-! ## The 100 ms tick and the lease (R143, R144) -/

/-- R144: the lease expires: the owner is cleared, and under policy FALLBACK the latch is set. -/
def expireLease (o : Owner) (s : State) : State :=
  match o.policy with
  | .keep => clearOwner s
  | .fallback => setLatch (clearOwner s)

/-- R143: the remaining lease of a present owner falls by 1; at 0 the lease expires in the tick's event. A renewal that carries a
lease of 1 and is taken just before the tick expires too: R143 says so, R145 says that no expiry happens [log 33]. -/
def tick100ms (s : State) : State :=
  match s.owner with
  | none => s
  | some o => if o.lease ≤ 1 then expireLease o s else { s with owner := some { o with lease := o.lease - 1 } }

/-- R34: the 100 ms tick that is due is taken. -/
def takeTick100 (s : State) : State :=
  if s.due.hundred then tick100ms { s with due := { s.due with hundred := false } } else s

/-- TICK_100MS (R34, R143): the tick the divider has brought; where none is due the command is no tick [log 4] [log 7]. -/
def execTick100ms (s : State) : Host.Outcome State Fault Refusal :=
  if s.resetPin then .next s else .next (takeTick100 s)

/-- LEASE_EXPIRY (R144): the lease of a present owner expires [log 3]. -/
def execLeaseExpiry (s : State) : Host.Outcome State Fault Refusal :=
  match s.owner with
  | none => .next s
  | some o => if s.resetPin then .next s else .next (expireLease o s)

/-! ## The timestamp and the divider (R33, R34) -/

/-- R34: the ticks that fall at a position of the divider: every 1000 µs, every tenth of these and every tenth of those. -/
def ticksAt (divider : Nat) : DueTicks :=
  { one := decide (divider % 1000 = 0), ten := decide (divider % 10000 = 0), hundred := decide (divider = 0) }

/-- R33, R34: one µs: the counter wraps at 2^32, the divider at 100 ms, in step with it, and the divider brings its ticks. -/
def countMicrosecond (s : State) : State :=
  { s with
    timestamp := s.timestamp + 1
    divider := (s.divider + 1) % 100000
    due := ticksAt ((s.divider + 1) % 100000) }

/-- R33, R34: a microsecond passes. A tick that fell at the last one and that no command has taken is taken first, 1 ms before
10 ms before 100 ms [log 7]. -/
def advanceTime (s : State) : State := countMicrosecond (takeTick100 (takeTick10 (takeTick1 s)))

/-- TIMESTAMP_COUNTER_ADVANCE (R33): the counter stays at 0 while RESET is asserted. -/
def execTimestampCounterAdvance (s : State) : Host.Outcome State Fault Refusal :=
  if s.resetPin then .next s else .next (advanceTime s)

end Sys2Proof.Machine
end

