-- ==== Sys2Proof/Machine/Dispatch.lean ====
section
/-! DEFINITION. exec: one arm per row of the table, each one direct call of the command's meaning. -/

namespace Sys2Proof.Machine

def exec (i : Instr) (s : State) : Host.Outcome State Fault Refusal :=
  match i with
  | .resetAssert => Sys2Proof.Machine.execResetAssert s
  | .resetRelease straps => Sys2Proof.Machine.execResetRelease straps s
  | .signalPresent p => Sys2Proof.Machine.execSignalPresent p s
  | .lossOfSignal p => Sys2Proof.Machine.execLossOfSignal p s
  | .receiveSof p => Sys2Proof.Machine.execReceiveSof p s
  | .receiveDataByte p b => Sys2Proof.Machine.execReceiveDataByte p b s
  | .receiveEof p => Sys2Proof.Machine.execReceiveEof p s
  | .receiveAbort p => Sys2Proof.Machine.execReceiveAbort p s
  | .receiveIdle p => Sys2Proof.Machine.execReceiveIdle p s
  | .codeError p => Sys2Proof.Machine.execCodeError p s
  | .coolDownExpiry p => Sys2Proof.Machine.execCoolDownExpiry p s
  | .joinSettleExpiry => Sys2Proof.Machine.execJoinSettleExpiry s
  | .throughFrameStart p => Sys2Proof.Machine.execThroughFrameStart p s
  | .transmitSymbol p => Sys2Proof.Machine.execTransmitSymbol p s
  | .moveOutAnswer p => Sys2Proof.Machine.execMoveOutAnswer p s
  | .moveOutMreply p => Sys2Proof.Machine.execMoveOutMreply p s
  | .moveOutNotice p => Sys2Proof.Machine.execMoveOutNotice p s
  | .moveOutAssign p => Sys2Proof.Machine.execMoveOutAssign p s
  | .moveOutBeacon p => Sys2Proof.Machine.execMoveOutBeacon p s
  | .tick1ms => Sys2Proof.Machine.execTick1ms s
  | .queueAgeOut p => Sys2Proof.Machine.execQueueAgeOut p s
  | .beaconExpiry n => Sys2Proof.Machine.execBeaconExpiry n s
  | .tick10ms => Sys2Proof.Machine.execTick10ms s
  | .holdTimerExpiry n => Sys2Proof.Machine.execHoldTimerExpiry n s
  | .noticeRepeatExpiry => Sys2Proof.Machine.execNoticeRepeatExpiry s
  | .tick100ms => Sys2Proof.Machine.execTick100ms s
  | .leaseExpiry => Sys2Proof.Machine.execLeaseExpiry s
  | .bankCopyAdvance => Sys2Proof.Machine.execBankCopyAdvance s
  | .bankCopyComplete => Sys2Proof.Machine.execBankCopyComplete s
  | .ident e params => Sys2Proof.Machine.execIdent e params s
  | .claim e params => Sys2Proof.Machine.execClaim e params s
  | .renounce e params => Sys2Proof.Machine.execRenounce e params s
  | .settingsRead e params => Sys2Proof.Machine.execSettingsRead e params s
  | .settingsWrite e params => Sys2Proof.Machine.execSettingsWrite e params s
  | .entryRead e params => Sys2Proof.Machine.execEntryRead e params s
  | .entryWrite e params => Sys2Proof.Machine.execEntryWrite e params s
  | .entryClear e params => Sys2Proof.Machine.execEntryClear e params s
  | .bankCopy e params => Sys2Proof.Machine.execBankCopy e params s
  | .bankSwap e params => Sys2Proof.Machine.execBankSwap e params s
  | .slotSetup e params => Sys2Proof.Machine.execSlotSetup e params s
  | .slotLoad e params => Sys2Proof.Machine.execSlotLoad e params s
  | .slotReadWithoutHold e slot => Sys2Proof.Machine.execSlotReadWithoutHold e slot s
  | .slotReadWithHold e slot => Sys2Proof.Machine.execSlotReadWithHold e slot s
  | .slotRelease e params => Sys2Proof.Machine.execSlotRelease e params s
  | .noticeAck e params => Sys2Proof.Machine.execNoticeAck e params s
  | .statsReadWithoutClear e group => Sys2Proof.Machine.execStatsReadWithoutClear e group s
  | .statsReadWithClear e group => Sys2Proof.Machine.execStatsReadWithClear e group s
  | .restart e params => Sys2Proof.Machine.execRestart e params s
  | .unknownRequest e code params => Sys2Proof.Machine.execUnknownRequest e code params s
  | .assign p n => Sys2Proof.Machine.execAssign p n s
  | .restartBegin => Sys2Proof.Machine.execRestartBegin s
  | .timestampCounterAdvance => Sys2Proof.Machine.execTimestampCounterAdvance s

end Sys2Proof.Machine
end

