-- ==== Sys2Proof/Safety.lean ====
section
/-! DEFINITION. What claims about the part are stated in: the invariants every step keeps and the terms of the statements.
Nothing in the machine rests on this file. -/

namespace Sys2Proof.Machine

/-! ## Invariants -/

/-- R118, R120: each queue holds at most 16 entries (a held place counted), at most one per slot and at most one ASSIGN; the two
together at most one NOTICE. -/
structure QueuesOk (s : State) : Prop where
  bound  : ∀ p, (s.queues.get p).occupancy ≤ 16
  slots  : ∀ p, ((s.queues.get p).entries.filterMap (fun e => e.body.slotField)).Nodup
  assign : ∀ p, ((s.queues.get p).entries.filter (fun e => e.body.isFrom .assign)).length ≤ 1
  notice : ((s.queues.a.entries ++ s.queues.b.entries).filter (fun e => e.body.isFrom .notice)).length ≤ 1

/-- R147, R141, R142, R150: the reply cache holds at most 4 entries, one per manager address 0..254; an owner's address is
1..254 and its remaining lease 1..600; the own address is 0..254. -/
structure AgentOk (s : State) : Prop where
  cacheBound    : s.cache.length ≤ 4
  cacheDistinct : (s.cache.map (fun x => x.manager)).Nodup
  cacheManager  : ∀ x ∈ s.cache, x.manager ≠ 255
  ownerAddr     : ∀ o, s.owner = some o → o.addr ≠ 0 ∧ o.addr ≠ 255
  ownerLease    : ∀ o, s.owner = some o → 1 ≤ o.lease ∧ o.lease ≤ 600
  ownAddr       : s.ownAddr ≠ 255

/-- R84: the slot is a CAPTURE slot in state HELD. -/
def Slot.isHeld (x : Slot) : Bool :=
  match x.body with
  | .capture (.held _ _ _ _) => true
  | _ => false

/-- R91: the hold list holds at most 4 slots, none twice, exactly the HELD ones; it is empty while the part has no owner. -/
structure HoldsOk (s : State) : Prop where
  bound    : s.holdList.length ≤ 4
  distinct : s.holdList.Nodup
  held     : ∀ n : Fin 32, n ∈ s.holdList ↔ s.slots[n].isHeld = true
  unowned  : s.owner = none → s.holdList = []

/-- R22 to R32: how the ports, the relay state, the fallback latch, the BYPASS output, the queues, the relay paths and the beacon
timers stand to one another. -/
structure LineOk (s : State) : Prop where
  synced    : s.relay ≠ .bypass → s.ports.a.state = .synced ∧ s.ports.b.state = .synced
  released  : s.relay ≠ .bypass → s.bypassPin = false
  settle    : s.settle ≠ none ↔ s.relay = .joining
  coolDown  : ∀ p, (s.ports.get p).coolDown ≠ none ↔ (s.ports.get p).state = .fault
  noOwner   : s.latch = true → s.owner = none
  noRelay   : s.latch = true → s.relay ≠ .relay
  fallback  : s.relay = .fallback → s.latch = true
  queues    : s.relay.relays = false → ∀ p, s.queues.get p = { entries := [], held := false }
  paths     : s.relay.relays = false → ∀ d, (s.paths.get d).store = [] ∧ (s.paths.get d).flight = none
  stopped   : s.latch = true → ∀ n : Fin 32, s.slots[n].beaconTimer = none
  running   : s.relay = .relay → ∀ (n : Fin 32) (y : BeaconSlot), s.slots[n].body = .beacon y → y.timer ≠ none
  inReset   : s.resetPin = true → s.relay = .bypass ∧ s.bypassPin = true ∧ s.ports.a.state = .down ∧ s.ports.b.state = .down

/-- R56, R57: the fields of an entry fit together, a cleared entry included. -/
def Entry.fits (e : Entry) : Prop :=
  e.action.needsSlot = e.slot.isSome ∧ e.src ≠ some 255
  ∧ (e.action = .answer → e.kData = false ∧ e.kPoll = true ∧ e.kAnswer = false)
  ∧ (e.action = .learn → e.kData = false ∧ e.kPoll = false ∧ e.kAnswer = true)

/-- R57: every entry of both banks fits. -/
def TableOk (s : State) : Prop := ∀ (k : BankId) (i : Fin 64), (s.engine.bank k)[i].fits

/-- R155, R20, R21, R47, R34: the settings stand in their ranges, every bucket stands below its port's limit, each high-water
mark is at most 96, the divider's position is below 100 ms, and a tick is due only at the position that brings it. -/
structure RangesOk (s : State) : Prop where
  limit     : ∀ p, 4 ≤ (s.settings.bucketLimit.get p).toNat
  holdTime  : s.settings.holdTime ≠ 0
  repeat_   : s.settings.repeatTime ≠ 0
  ageLimit  : s.settings.ageLimit ≠ 0
  bucket    : ∀ p, (s.ports.get p).bucket < (s.settings.bucketLimit.get p).toNat
  highWater : ∀ d, (s.paths.get d).highWater ≤ 96
  divider   : s.divider < 100000
  due1      : s.due.one = true → s.divider % 1000 = 0
  due10     : s.due.ten = true → s.divider % 10000 = 0
  due100    : s.due.hundred = true → s.divider = 0

/-- R169: a restart that waits still has its reply queued or being sent. -/
def RestartWaits (s : State) : Prop := restartDue s = false

/-! ## The terms of the statements -/

/-- R135 and steps 1 and 2 of R137: a consumed request that the agent examines further: it arrives in RELAY or FALLBACK, its src
is not 255, it is no duplicate, and the queue of its arrival port has room; no restart is about to begin (R169). -/
abbrev Accepts (e : Envelope) (s : State) : Prop :=
  s.resetPin = false ∧ (s.relay = .relay ∨ s.relay = .fallback) ∧ e.copy = false ∧ e.src ≠ 255
  ∧ (∀ x ∈ s.cache, ¬(x.manager = e.src ∧ x.seq = e.seq)) ∧ (s.queues.get e.port).occupancy < 16 ∧ restartDue s = false

/-- R140: the request's sender is the owner. -/
abbrev FromOwner (e : Envelope) (s : State) : Prop := s.owner.map (fun o => o.addr) = some e.src

/-- R136, R139, R147, R137: a reply (its code and status first) is queued READY on the arrival port, recorded in the cache and
counted; nothing else changes. -/
def answered (e : Envelope) (payload : List Byte) (s : State) : State :=
  { s with
    queues := s.queues.set e.port { s.queues.get e.port with
      entries := (s.queues.get e.port).entries
        ++ [{ body := .mreply e.src s.ownAddr e.seq payload false, time := s.timestamp }] }
    cache := { manager := e.src, seq := e.seq, reply := some payload }
      :: (s.cache.filter (fun x => decide (x.manager ≠ e.src))).take 3
    agentStats :=
      if payload.getD 1 0 = 0 then { s.agentStats with executed := satInc s.agentStats.executed }
      else { s.agentStats with refused := satInc s.agentStats.refused } }

/-- R172: an event made pending with its addition mark set; nothing else changes. -/
def noted (bit : BitVec 34) (s : State) : State :=
  { s with notice := { s.notice with pending := s.notice.pending ||| bit, marks := s.notice.marks ||| bit } }

/-- The commands that deliver a byte time of a port's line to its receiver. -/
def receivesOn (p : Port) : Instr → Bool
  | .receiveSof q => decide (q = p)
  | .receiveDataByte q _ => decide (q = p)
  | .receiveEof q => decide (q = p)
  | .receiveAbort q => decide (q = p)
  | .receiveIdle q => decide (q = p)
  | .codeError q => decide (q = p)
  | _ => false

/-- R10: the end class of a frame in BODY, without the short-gap mark, at a command that ends it; none where the command does not
end it. `total` is 10 + len. -/
def bodyEnd (p : Port) (total : Nat) (r : Receiver) : Instr → Option EndClass
  | .receiveEof q =>
    if q ≠ p then none
    else if r.byteCount < total then some .length
    else if r.checkBytes = bytes16 r.check then some .good
    else some .badCheck
  | .receiveAbort q => if q = p then some .aborted else none
  | .receiveIdle q => if q = p then some .aborted else none
  | .receiveSof q => if q = p then some .aborted else none
  | .codeError q => if q = p then some .aborted else none
  | .receiveDataByte q _ => if q = p ∧ r.byteCount = total then some .length else none
  | _ => none

/-- R13, R178: the PORT counter of an end class rises by 1. -/
def countedEnd (cls : EndClass) (c : PortCounters) : PortCounters :=
  match cls with
  | .good => { c with good := satInc c.good }
  | .badCheck => { c with badCheck := satInc c.badCheck }
  | .runt => { c with runt := satInc c.runt }
  | .length => { c with length := satInc c.length }
  | .aborted => { c with aborted := satInc c.aborted }

/-- R8, R13: a receiver after the end of its frame: GAP, gap count 0, no frame in progress; what it keeps of the frame is the model's
choice [log 41]. -/
def afterEnd (r : Receiver) : Receiver :=
  { r with delim := .gap, gapCount := 0, byteCount := 0, header := [], checkBytes := [], shortGap := false }

/-- R11: a receiver whose frame an SOF has ended: a new frame with the short-gap mark. -/
def nextFrame (now : Wide) : Receiver :=
  { delim := .header, gapCount := 0, byteCount := 0, header := [], check := 0xFFFF, checkBytes := [], sofTime := now,
    shortGap := true }

/-- R1, R13, R178: a code error is counted on its port. -/
def countedError (c : PortCounters) : PortCounters := { c with codeErrors := satInc c.codeErrors }

/-- R10: a SYNCED receiver stands at the EOF of a frame without the short-gap mark whose bytes are all there and whose check
agrees; RESET is released and no restart is about to begin (R169). -/
abbrev AtGoodEof (p : Port) (s : State) : Prop :=
  s.resetPin = false ∧ restartDue s = false ∧ (s.ports.get p).state = .synced ∧ (s.rx.get p).delim = .body
  ∧ (s.rx.get p).shortGap = false ∧ (s.rx.get p).byteCount = 10 + (headerOf (s.rx.get p).header).len.toNat
  ∧ (s.rx.get p).checkBytes = bytes16 (s.rx.get p).check

/-- R9: a SYNCED receiver without the short-gap mark takes b as its eighth header byte, and the header h it completes has a len in
the range of its kind; RESET is released and no restart is about to begin (R169). -/
abbrev CompletesHeader (p : Port) (b : Byte) (h : Header) (s : State) : Prop :=
  s.resetPin = false ∧ restartDue s = false ∧ (s.ports.get p).state = .synced ∧ (s.rx.get p).delim = .header
  ∧ (s.rx.get p).shortGap = false ∧ (s.rx.get p).byteCount = 7 ∧ h = headerOf ((s.rx.get p).header ++ [b])
  ∧ lenAccepted h = true

/-- R9: the receiver after the eighth header byte of an accepted header. -/
def afterHeader (b : Byte) (r : Receiver) : Receiver :=
  { r with delim := .body, byteCount := 8, header := r.header ++ [b], check := checkByte r.check b }

/-- R40, R41: the path of a frame's direction with its header held and its decision recorded; a FORWARD frame's 8 header bytes are
8 places of the detour store, behind what stands there, the high-water mark stopping at 96 [log 14]. -/
def heldHeader (h : Header) (time : Wide) (d : Decision) (x : RelayPath) : RelayPath :=
  if d.verdict = .forward then
    { x with
      flight := some { header := h, sofTime := time, decision := d, buffer := [] }
      store := x.store ++ [{ bytes := headerBytes h, mark := none }]
      highWater := max x.highWater (min (occupancy x.store + 8) 96) }
  else { x with flight := some { header := h, sofTime := time, decision := d, buffer := [] } }

/-- R49 condition 2: the output of a port is FREE in RELAY or FALLBACK, its detour store is empty, the receiver that feeds it is in
GAP, and x is the entry its queue selects, `rest` the entries without it; RESET is released. -/
abbrev Selects (p : Port) (x : QEntry) (rest : List QEntry) (s : State) : Prop :=
  s.resetPin = false ∧ (s.relay = .relay ∨ s.relay = .fallback) ∧ (s.paths.get (dirOut p)).tx = .between 2
  ∧ (s.paths.get (dirOut p)).store = [] ∧ (s.rx.get (otherPort p)).delim = .gap
  ∧ selectEntry (s.queues.get p).entries = some (x, rest)

/-- The move-out row of a queue entry's source. -/
def moveOutRow (p : Port) (b : EntryBody) : Instr :=
  match b.source with
  | .answer => .moveOutAnswer p
  | .mreply => .moveOutMreply p
  | .notice => .moveOutNotice p
  | .assign => .moveOutAssign p
  | .beacon => .moveOutBeacon p

/-- R26: what the end of a frame on a SYNCED port of s leaves beside u. In BYPASS, with the other port SYNCED and its receiver in
GAP, the part leaves for JOINING in the same event: BYPASS released, the settle timer running to the second 1 ms tick. -/
def joinedAfterEnd (p : Port) (s u : State) : State :=
  if s.relay = .bypass ∧ (s.ports.get (otherPort p)).state = .synced ∧ (s.rx.get (otherPort p)).delim = .gap then
    { u with relay := .joining, bypassPin := false, settle := some 2 }
  else u

/-- R17, R22, R178: a port in FAULT: its bucket and sync idle count 0, the cool-down running to the 51st 1 ms tick. -/
def faultedPort : PortBlock := { state := .fault, syncIdle := 0, bucket := 0, coolDown := some 51 }

/-- R17, R178: an entry to FAULT is counted on its port. -/
def countedFault (c : PortCounters) : PortCounters := { c with faultsEntered := satInc c.faultsEntered }

/-- R15: the data bytes of a built frame: header and payload, then their check. -/
def withCheck (bs : List Byte) : List Byte := bs ++ bytes16 (frameCheck bs)

/-- R125, R51: an entry has left the queue of a port, its frame is handed to the transmitter, and its direction counts it. -/
def movedOut (p : Port) (rest : List QEntry) (frame : List Byte) (named : Bool) (count : DirCounters → DirCounters)
    (s : State) : State :=
  { s with
    queues := s.queues.set p { s.queues.get p with entries := rest }
    paths := s.paths.set (dirOut p) { s.paths.get (dirOut p) with tx := .injection false frame named }
    dirStats := s.dirStats.set (dirOut p) (count (s.dirStats.get (dirOut p))) }

/-- R118: an entry joins the newest end of a port's queue with the current timestamp. -/
def enqueued (p : Port) (b : EntryBody) (s : State) : State :=
  { s with queues := s.queues.set p { s.queues.get p with
      entries := (s.queues.get p).entries ++ [{ body := b, time := s.timestamp }] } }

/-- R123, R173: what an age-out of both queues leaves: the entries over the limit are gone, counted stale-aged each in its queue's
direction; where a NOTICE was among them the notice condition is checked once, after both [log 13]. -/
def agedOut (s : State) : State :=
  let old := fun (x : QEntry) => decide (s.settings.ageLimit.toNat * 1000 < (s.timestamp - x.time).toNat)
  let kept := fun (q : Queue) => { q with entries := q.entries.filter (fun x => !old x) }
  let count := fun (q : Queue) (c : DirCounters) => { c with staleAged := satAdd c.staleAged (q.entries.filter old).length }
  let u := { s with
    queues := ⟨kept s.queues.a, kept s.queues.b⟩
    dirStats := ⟨count s.queues.b s.dirStats.ab, count s.queues.a s.dirStats.ba⟩ }
  if (s.queues.a.entries ++ s.queues.b.entries).any (fun x => decide (x.body = .notice) && old x) then offerNotice u else u

/-- The state after commands taken one after another. -/
def ran (cs : List Instr) (s : State) : State :=
  cs.foldl (fun t c => match exec c t with
    | .next u => u
    | _ => t) s

/-- An entry's contents: its fields, hit count excepted (R66). -/
def Entry.contents (e : Entry) : Entry := { e with hits := 0 }

end Sys2Proof.Machine
end

