-- ==== Sys2Proof/Certificates/Slice0/Obligations.lean ====
section
/-! DEFINITION. The statements for the provers: what the manual's rules say the commands do, each command's completion, and the
invariants every step keeps. Each docstring names the rules it rests on. -/

open Sys2Proof Sys2Proof.Machine

/-! ## The machine -/

/-- The model's step [log 1]: the command at the front of the queue runs on the state with the queue's rest; on an empty queue the
block idles. -/
def Obligations.StepRunsFrontCommand : Prop :=
  (∀ (c : Instr) (rest : List Instr) (s : State),
    step { s with pending := c :: rest } = exec c { s with pending := rest })
  ∧ ∀ s : State, step { s with pending := [] } = .next { s with pending := [] }

/-- Every command answers a next state, and leaves the commands that wait as they stood: no event of the manual stops the part [log
28]. -/
def Obligations.EveryCommandCompletes : Prop :=
  ∀ (c : Instr) (s : State), ∃ t, exec c s = .next t ∧ t.pending = s.pending

/-- The values the manual gives for a full reset (R12, R23, R32, R33, R34, R48, R54, R76, R99, R133, R150, R151, R155, R172, R177),
that State.reset stands with RESET still asserted [log 9], and that the invariants which every step keeps hold there. -/
def Obligations.FullResetValues : Prop :=
  let s := State.reset
  s.resetPin = true ∧ s.bypassPin = true ∧ s.timestamp = 0 ∧ s.divider = 0
  ∧ s.due = { one := false, ten := false, hundred := false } ∧ s.relay = .bypass ∧ s.latch = false ∧ s.settle = none
  ∧ (∀ p, (s.ports.get p).state = .down ∧ (s.ports.get p).bucket = 0 ∧ (s.ports.get p).syncIdle = 0
      ∧ (s.ports.get p).coolDown = none)
  ∧ (∀ p, (s.rx.get p).delim = .gap ∧ (s.rx.get p).gapCount = 2 ∧ (s.rx.get p).byteCount = 0 ∧ (s.rx.get p).header = []
      ∧ (s.rx.get p).shortGap = false ∧ (s.rx.get p).check = 0xFFFF)
  ∧ (∀ d, (s.paths.get d).store = [] ∧ (s.paths.get d).flight = none ∧ (s.paths.get d).highWater = 0
      ∧ (s.paths.get d).tx = .between 2)
  ∧ (∀ (k : BankId) (i : Fin 64), (s.engine.bank k)[i] = Entry.cleared)
  ∧ s.engine.selector = .zero ∧ s.engine.stagingGen = 0 ∧ s.engine.incomplete = false ∧ s.engine.copy = .idle
  ∧ (∀ n : Fin 32, s.slots[n] = { notify := false, gen := 0, count := 0, body := .unused })
  ∧ s.holdList = [] ∧ (∀ p, s.queues.get p = { entries := [], held := false })
  ∧ s.ownAddr = 0 ∧ s.owner = none ∧ s.cache = [] ∧ s.restartPending = false
  ∧ s.notice = { pending := 0, marks := 0, number := 0, repeatTimer := none }
  ∧ s.settings = { defaults := ⟨.pass, .pass⟩, bucketLimit := ⟨16, 16⟩, holdTime := 50, repeatTime := 10, ageLimit := 500 }
  ∧ s.portStats = ⟨.zero, .zero⟩ ∧ s.dirStats = ⟨.zero, .zero⟩ ∧ s.proxyStats = .zero ∧ s.agentStats = .zero
  ∧ QueuesOk s ∧ AgentOk s ∧ HoldsOk s ∧ LineOk s ∧ TableOk s ∧ RangesOk s ∧ RestartWaits s

/-- RESET_ASSERT (R32, R23, R54, R76, R99, R133, R151, R172, R177): from every state the part takes its full-reset values; the
detectors' reports and the sampled rate stand, and so do the model's own waiting commands and counter [log 9]. RESET_RELEASE (R2,
R23, R17): the straps are sampled; each port whose detector reports a signal enters SYNCING with sync idle count 0, and its change
event becomes pending. With RESET not asserted the release changes nothing [log 4]. -/
def Obligations.ResetTakesAndReleasesThePart : Prop :=
  (∀ s : State, exec .resetAssert s
     = .next { State.reset with signal := s.signal, rate := s.rate, freeCount := s.freeCount, pending := s.pending })
  ∧ ((∀ (straps : BitVec 2) (s : State), s.resetPin = true → s.relay = .bypass →
     exec (.resetRelease straps) s = .next { s with
       resetPin := false
       rate := straps
       ports := ⟨if s.signal.a then { s.ports.a with state := .syncing, syncIdle := 0 } else s.ports.a,
                 if s.signal.b then { s.ports.b with state := .syncing, syncIdle := 0 } else s.ports.b⟩
       notice := { s.notice with
         pending := (s.notice.pending ||| if s.signal.a then portBit .a else 0) ||| if s.signal.b then portBit .b else 0
         marks := (s.notice.marks ||| if s.signal.a then portBit .a else 0) ||| if s.signal.b then portBit .b else 0 } })
   ∧ ∀ (straps : BitVec 2) (s : State), s.resetPin = false → exec (.resetRelease straps) s = .next s)

/-- While RESET is asserted every command but the detectors' reports, RESET_ASSERT and RESET_RELEASE changes nothing (R23, R32, R33)
[log 10]. -/
def Obligations.ResetHoldsThePart : Prop :=
  ∀ (c : Instr) (s : State), s.resetPin = true → c ≠ .resetAssert → (∀ x, c ≠ .resetRelease x) →
    (∀ p, c ≠ .signalPresent p) → (∀ p, c ≠ .lossOfSignal p) → exec c s = .next s

/-! ## Ports and joining -/

/-- SIGNAL_PRESENT (R17): a DOWN port enters SYNCING with sync idle count 0 and its change event is added; in another state, and
while RESET is asserted, only the detector's report changes. LOSS_OF_SIGNAL in BYPASS (R17): a port that is not DOWN, with no frame
in progress, becomes DOWN, its cool-down timer stopped and its sync idle count 0, and its change event is added; a DOWN port stays
DOWN. R12: with a frame in progress on a SYNCED port in BYPASS, the frame ends at that moment besides, its receiver in GAP, what the
agent was receiving discarded, no frame counted and the bucket as it stood; that its gap count is then 0 [log 22], and its byte
count and header cleared [log 41], is the model's choice. -/
def Obligations.DetectorReportsMoveThePort : Prop :=
  ((∀ (p : Port) (s : State), s.resetPin = false → s.relay.relays = false → (s.ports.get p).state = .down →
     exec (.signalPresent p) s = .next (noted (portBit p) { s with
       signal := s.signal.set p true
       ports := s.ports.set p { s.ports.get p with state := .syncing, syncIdle := 0 } }))
   ∧ ∀ (p : Port) (s : State), s.resetPin = true ∨ (s.ports.get p).state ≠ .down →
     exec (.signalPresent p) s = .next { s with signal := s.signal.set p true })
  ∧ ((∀ (p : Port) (s : State), s.resetPin = false → s.relay = .bypass → (s.ports.get p).state ≠ .down →
     (s.rx.get p).delim = .gap → restartDue s = false →
     exec (.lossOfSignal p) s = .next (noted (portBit p) { s with
       signal := s.signal.set p false
       ports := s.ports.set p { s.ports.get p with state := .down, syncIdle := 0, coolDown := none } }))
   ∧ (∀ (p : Port) (s : State), s.resetPin = false → s.relay = .bypass → (s.ports.get p).state = .synced →
     (s.rx.get p).delim ≠ .gap → (s.paths.get (dirIn p)).flight = none → restartDue s = false →
     exec (.lossOfSignal p) s = .next (noted (portBit p) { s with
       signal := s.signal.set p false
       ports := s.ports.set p { s.ports.get p with state := .down, syncIdle := 0, coolDown := none }
       rx := s.rx.set p (afterEnd (s.rx.get p))
       inbox := s.inbox.set p none }))
   ∧ ∀ (p : Port) (s : State), s.resetPin = true ∨ (s.ports.get p).state = .down →
     exec (.lossOfSignal p) s = .next { s with signal := s.signal.set p false })

/-- R28 on the loss of a SYNCED port's signal in JOINING, RELAY or FALLBACK: BYPASS; the settle timer stopped; both detour stores
and both queues emptied, every through-frame counted poisoned and every entry withdrawn; the decision records abandoned; a frame
being sent is left to its ABORT on the port still SYNCED and cut off on the other; and what R28 lists as untouched stands. The
model's choices in it: the entry to BYPASS comes before the port's change event, so no NOTICE is placed and withdrawn with the
queues [log 17]; the gap count of the receiver whose frame is cut off is 0 [log 22], its byte count and header cleared [log 41]; a
through-frame is counted poisoned in this event, before its closing ABORT is sent [log 42]. -/
def Obligations.LeavingSyncedEntersBypass : Prop :=
  ∀ (p : Port) (s : State), s.resetPin = false → s.restartPending = false → s.relay ≠ .bypass →
    s.ports.a.state = .synced → s.ports.b.state = .synced →
    ∃ t, exec (.lossOfSignal p) s = .next t
      ∧ t.relay = .bypass ∧ t.settle = none ∧ t.bypassPin = (s.bypassPin || decide (s.relay = .joining))
      ∧ t.ports = s.ports.set p { s.ports.get p with state := .down, syncIdle := 0, coolDown := none }
      ∧ (∀ q, t.queues.get q = { entries := [], held := false })
      ∧ (∀ d, (t.paths.get d).store = [] ∧ (t.paths.get d).flight = none)
      ∧ (∀ q, (t.dirStats.get (dirOut q)).withdrawn
          = satAdd (s.dirStats.get (dirOut q)).withdrawn (s.queues.get q).entries.length)
      ∧ (∀ d, (t.dirStats.get d).poisoned = satAdd (s.dirStats.get d).poisoned (s.paths.get d).store.length)
      ∧ (∀ q sent, (s.paths.get (dirOut q)).tx = .through sent →
          (t.paths.get (dirOut q)).tx = if q ≠ p ∧ sent = true then .closing false else .between 2)
      ∧ (∀ q sent bs, (s.paths.get (dirOut q)).tx = .injection sent bs false →
          (t.paths.get (dirOut q)).tx = if q ≠ p ∧ sent = true then .closing false else .between 2)
      ∧ t.rx = s.rx.set p (if (s.rx.get p).delim = .gap then s.rx.get p else endedRx (s.rx.get p))
      ∧ t.portStats = s.portStats
      ∧ t.slots = s.slots ∧ t.holdList = s.holdList ∧ t.engine = s.engine ∧ t.owner = s.owner ∧ t.cache = s.cache
      ∧ t.latch = s.latch ∧ t.settings = s.settings ∧ t.ownAddr = s.ownAddr ∧ t.notice = (noted (portBit p) s).notice

/-- R20, R17, R22: a code error between frames on a SYNCED port. Below the limit the bucket adds 1 and nothing leaves; at the limit
the port enters FAULT with bucket 0, faults entered +1 and the cool-down running to the 51st 1 ms tick, and in RELAY or FALLBACK the
part enters BYPASS. -/
def Obligations.CodeErrorFillsBucket : Prop :=
  (∀ (p : Port) (s : State), s.resetPin = false → (s.ports.get p).state = .synced → (s.rx.get p).delim = .gap →
    (s.ports.get p).bucket + 1 < (s.settings.bucketLimit.get p).toNat → restartDue s = false →
    exec (.codeError p) s = .next { s with
      rx := s.rx.set p { s.rx.get p with gapCount := min 2 ((s.rx.get p).gapCount + 1) }
      ports := s.ports.set p { s.ports.get p with bucket := (s.ports.get p).bucket + 1 }
      portStats := s.portStats.set p { s.portStats.get p with codeErrors := satInc (s.portStats.get p).codeErrors } })
  ∧ (∀ (p : Port) (s : State), s.resetPin = false → (s.ports.get p).state = .synced → (s.rx.get p).delim = .gap →
    (s.settings.bucketLimit.get p).toNat ≤ (s.ports.get p).bucket + 1 → restartDue s = false → s.relay = .bypass →
    exec (.codeError p) s = .next (noted (portBit p) { s with
      rx := s.rx.set p { s.rx.get p with gapCount := min 2 ((s.rx.get p).gapCount + 1) }
      ports := s.ports.set p { state := .fault, syncIdle := 0, bucket := 0, coolDown := some 51 }
      portStats := s.portStats.set p { s.portStats.get p with
        codeErrors := satInc (s.portStats.get p).codeErrors
        faultsEntered := satInc (s.portStats.get p).faultsEntered } }))
  ∧ ∀ (p : Port) (s : State), s.resetPin = false → (s.ports.get p).state = .synced → (s.rx.get p).delim = .gap →
    (s.settings.bucketLimit.get p).toNat ≤ (s.ports.get p).bucket + 1 → s.restartPending = false → s.relay ≠ .bypass →
    ∃ t, exec (.codeError p) s = .next t ∧ t.relay = .bypass
      ∧ t.ports = s.ports.set p { state := .fault, syncIdle := 0, bucket := 0, coolDown := some 51 }
      ∧ t.portStats = s.portStats.set p { s.portStats.get p with
          codeErrors := satInc (s.portStats.get p).codeErrors
          faultsEntered := satInc (s.portStats.get p).faultsEntered }
      ∧ (∀ q, t.queues.get q = { entries := [], held := false }) ∧ t.notice = (noted (portBit p) s).notice

/-- R18, R19: in SYNCING each IDLE below the 32nd adds 1 to the sync idle count, any other symbol sets it to 0, and a code error
sets it to 0 and is counted. R17, R18, R26: the 32nd consecutive IDLE takes the port to SYNCED, its receiver in GAP with gap count
2, and adds its change event; if the other port is SYNCED with its receiver in GAP, the part leaves BYPASS for JOINING in the same
event: the BYPASS output is released and the settle timer runs to the second 1 ms tick. That the sync idle count is 0 once the port
is SYNCED [log 22], and what the receiver's byte count, header, check bytes, short-gap mark, check register and SOF timestamp hold
then [log 41], is the model's choice. R19: a DOWN port decodes nothing; a FAULT port discards every symbol and counts a code error,
its bucket unchanged. -/
def Obligations.PortsTakeSymbolsByState : Prop :=
  (∀ (p : Port) (s : State), s.resetPin = false → (s.ports.get p).state = .syncing → restartDue s = false →
     ((s.ports.get p).syncIdle + 1 < 32 → exec (.receiveIdle p) s = .next { s with
       ports := s.ports.set p { s.ports.get p with syncIdle := (s.ports.get p).syncIdle + 1 } })
     ∧ (∀ c, c = .receiveSof p ∨ c = .receiveEof p ∨ c = .receiveAbort p ∨ (∃ b, c = .receiveDataByte p b) →
       exec c s = .next { s with ports := s.ports.set p { s.ports.get p with syncIdle := 0 } })
     ∧ exec (.codeError p) s = .next { s with
         ports := s.ports.set p { s.ports.get p with syncIdle := 0 }
         portStats := s.portStats.set p { s.portStats.get p with codeErrors := satInc (s.portStats.get p).codeErrors } })
  ∧ (∀ (p : Port) (s : State), s.resetPin = false → s.relay = .bypass → (s.ports.get p).state = .syncing →
     (s.ports.get p).syncIdle = 31 → restartDue s = false →
     let u := noted (portBit p) { s with
       ports := s.ports.set p { s.ports.get p with state := .synced, syncIdle := 0 }
       rx := s.rx.set p { s.rx.get p with
         delim := .gap, gapCount := 2, byteCount := 0, header := [], checkBytes := [], shortGap := false } }
     exec (.receiveIdle p) s = .next
       (if (s.ports.get (otherPort p)).state = .synced ∧ (s.rx.get (otherPort p)).delim = .gap then
         { u with relay := .joining, bypassPin := false, settle := some 2 }
       else u))
  ∧ ((∀ (p : Port) (s : State) (c : Instr), s.resetPin = false → restartDue s = false → receivesOn p c = true →
     (s.ports.get p).state = .down → exec c s = .next s)
   ∧ (∀ (p : Port) (s : State) (c : Instr), s.resetPin = false → restartDue s = false → receivesOn p c = true →
     c ≠ .codeError p → (s.ports.get p).state = .fault → exec c s = .next s)
   ∧ ∀ (p : Port) (s : State), s.resetPin = false → restartDue s = false → (s.ports.get p).state = .fault →
     exec (.codeError p) s = .next { s with
       portStats := s.portStats.set p { s.portStats.get p with codeErrors := satInc (s.portStats.get p).codeErrors } })

/-- COOL_DOWN_EXPIRY (R22, R17): a FAULT port enters SYNCING if its detector reports a signal and DOWN if not, and its change event
is added, with any ticks left [log 3]; out of FAULT there is no such timer, and nothing changes [log 4]. JOIN_SETTLE_EXPIRY (R27,
R30, R173): in JOINING the part enters RELAY when the fallback latch is clear, where every stopped beacon timer starts from a full
interval, and FALLBACK when it is set; the notice condition is then checked; it does so with any ticks left [log 3], and outside
JOINING it changes nothing [log 4]. That these rows act so is the model's choice, not a rule. -/
def Obligations.CoolDownAndSettleExpire : Prop :=
  ((∀ (p : Port) (s : State), s.resetPin = false → s.relay.relays = false → (s.ports.get p).state = .fault →
     (s.ports.get p).coolDown ≠ none →
     exec (.coolDownExpiry p) s = .next (noted (portBit p) { s with
       ports := s.ports.set p { s.ports.get p with
         state := if s.signal.get p then .syncing else .down, syncIdle := 0, coolDown := none } }))
   ∧ ∀ (p : Port) (s : State), (s.ports.get p).state ≠ .fault → exec (.coolDownExpiry p) s = .next s)
  ∧ ((∀ s : State, s.resetPin = false → s.relay = .joining → s.latch = false →
     exec .joinSettleExpiry s
       = .next (offerNotice { s with relay := .relay, settle := none, slots := mapVec startStoppedBeacon s.slots }))
   ∧ (∀ s : State, s.resetPin = false → s.relay = .joining → s.latch = true →
     exec .joinSettleExpiry s = .next (offerNotice { s with relay := .fallback, settle := none }))
   ∧ ∀ s : State, s.relay ≠ .joining → exec .joinSettleExpiry s = .next s)

/-! ## Receivers and relay paths -/

/-- R7: a register continued over the two received check bytes holds 0000H exactly when they are the check of the bytes before them,
high byte first. -/
def Obligations.CheckResidueIsZero : Prop :=
  ∀ (bs : List Byte) (x y : Byte), checkByte (checkByte (frameCheck bs) x) y = 0 ↔ [x, y] = bytes16 (frameCheck bs)

/-- R8: on a SYNCED port in GAP an SOF begins a frame and samples the timestamp, its short-gap mark set when fewer than 2 symbols
followed the last end; an IDLE, a data byte, an EOF or an ABORT adds 1 to the gap count, up to 2, and does nothing else. -/
def Obligations.GapTakesSofAndCountsRest : Prop :=
  ∀ (p : Port) (s : State), s.resetPin = false → restartDue s = false → (s.ports.get p).state = .synced →
    (s.rx.get p).delim = .gap →
    exec (.receiveSof p) s = .next { s with
      rx := s.rx.set p
        { delim := .header, gapCount := (s.rx.get p).gapCount, byteCount := 0, header := [], check := 0xFFFF, checkBytes := [],
          sofTime := s.timestamp, shortGap := decide ((s.rx.get p).gapCount < 2) } }
    ∧ ∀ c, c = .receiveIdle p ∨ c = .receiveEof p ∨ c = .receiveAbort p ∨ (∃ b, c = .receiveDataByte p b) →
      exec c s = .next { s with rx := s.rx.set p { s.rx.get p with gapCount := min 2 ((s.rx.get p).gapCount + 1) } }

/-- R9, R11, R13, R20: in HEADER a data byte before the eighth is stored, counted and checked, and nothing else changes; an EOF, an
ABORT, an IDLE or a code error, which is counted too, ends the frame, RUNT without the short-gap mark and ABORTED with it; an SOF
ends it alike and begins a frame with the short-gap mark. The end adds 1 to the bucket, a code error 1 more; neither path nor agent
is reached. R9, R11, R40: an eighth header byte whose len is outside its kind's range ends the frame: with the short-gap mark
ABORTED [log 24], without it LENGTH, counted dropped-length in the direction in RELAY and FALLBACK, an unknown kind not as
unknown-kind beside it [log 36], and in BYPASS and JOINING not counted discarded-bypass [log 19]; no decision is taken. R26: in
BYPASS such an end, but not an SOF, brings JOINING about when both ports are SYNCED and the other receiver is in GAP. What the
receiver keeps of an ended frame is the model's choice [log 41]. R17, R20, R22, R28: where the additions reach the limit, the end is
counted in its class first, and the port enters FAULT and the part BYPASS. -/
def Obligations.HeaderStoresBytesOrEnds : Prop :=
  ∀ (p : Port) (s : State), s.resetPin = false → (s.ports.get p).state = .synced → (s.rx.get p).delim = .header →
    let r := s.rx.get p
    let limit := (s.settings.bucketLimit.get p).toNat
    let filled := fun (n : Nat) => s.ports.set p { s.ports.get p with bucket := (s.ports.get p).bucket + n }
    let errors := fun (c : Instr) => if c = .codeError p then 1 else 0
    let counters := fun (c : Instr) => countedEnd (if r.shortGap then .aborted else .runt)
      (if c = .codeError p then countedError (s.portStats.get p) else s.portStats.get p)
    (restartDue s = false → ∀ b, r.byteCount < 7 → exec (.receiveDataByte p b) s = .next { s with rx := s.rx.set p { r with
      header := r.header ++ [b], byteCount := r.byteCount + 1, check := checkByte r.check b } })
    ∧ ((s.paths.get (dirIn p)).flight = none → s.inbox.get p = none →
      (restartDue s = false →
        (∀ c, c = .receiveIdle p ∨ c = .receiveEof p ∨ c = .receiveAbort p ∨ c = .codeError p →
          (s.ports.get p).bucket + 1 + errors c < limit →
          exec c s = .next (joinedAfterEnd p s { s with
            rx := s.rx.set p (afterEnd r)
            ports := filled (1 + errors c)
            portStats := s.portStats.set p (counters c) }))
        ∧ ((s.ports.get p).bucket + 1 < limit → exec (.receiveSof p) s = .next { s with
            rx := s.rx.set p (nextFrame s.timestamp)
            ports := filled 1
            portStats := s.portStats.set p (counters (.receiveSof p)) })
        ∧ ∀ b, r.byteCount = 7 → (s.ports.get p).bucket + 1 < limit → lenAccepted (headerOf (r.header ++ [b])) = false →
          let ended := fun (cls : EndClass) => { s with
            rx := s.rx.set p (afterEnd { r with check := checkByte r.check b })
            ports := filled 1
            portStats := s.portStats.set p (countedEnd cls (s.portStats.get p)) }
          exec (.receiveDataByte p b) s = .next (joinedAfterEnd p s
            (if r.shortGap = true then ended .aborted
            else if s.relay = .relay ∨ s.relay = .fallback then { ended .length with
              dirStats := s.dirStats.set (dirIn p)
                { s.dirStats.get (dirIn p) with droppedLength := satInc (s.dirStats.get (dirIn p)).droppedLength } }
            else ended .length)))
      ∧ (s.restartPending = false → ∀ c, c = .receiveIdle p ∨ c = .receiveEof p ∨ c = .receiveAbort p ∨ c = .codeError p
          ∨ c = .receiveSof p → limit ≤ (s.ports.get p).bucket + 1 + errors c →
        ∃ t, exec c s = .next t ∧ t.ports = s.ports.set p faultedPort ∧ t.relay = .bypass ∧ (t.rx.get p).delim = .gap
          ∧ t.portStats = s.portStats.set p (countedFault (counters c)))
      ∧ (s.restartPending = false → ∀ b, r.byteCount = 7 → limit ≤ (s.ports.get p).bucket + 1 →
        lenAccepted (headerOf (r.header ++ [b])) = false →
        ∃ t, exec (.receiveDataByte p b) s = .next t ∧ t.ports = s.ports.set p faultedPort ∧ t.relay = .bypass
          ∧ (t.rx.get p).delim = .gap
          ∧ t.portStats = s.portStats.set p
            (countedFault (countedEnd (if r.shortGap then .aborted else .length) (s.portStats.get p)))
          ∧ (t.dirStats.get (dirIn p)).droppedLength = (if r.shortGap = false ∧ (s.relay = .relay ∨ s.relay = .fallback)
            then satInc (s.dirStats.get (dirIn p)).droppedLength else (s.dirStats.get (dirIn p)).droppedLength)))

/-- R61, R62: the entry that decides a header is the first, in ascending index order, that is valid, admits the arrival port, holds
the frame's kind, agrees with its tag in every bit of the mask, and has src and dest absent or equal to the frame's. -/
def Obligations.FirstMatchDecides : Prop :=
  ∀ (b : Bank) (p : Port) (h : Header) (i : Fin 64),
    let Matches := fun (e : Entry) =>
      e.valid = true ∧ (e.ports = .either ∨ (e.ports = .a ∧ p = .a) ∨ (e.ports = .b ∧ p = .b))
      ∧ ((kindOf h.kindFlags = .data ∧ e.kData = true) ∨ (kindOf h.kindFlags = .poll ∧ e.kPoll = true)
        ∨ (kindOf h.kindFlags = .answer ∧ e.kAnswer = true))
      ∧ (∀ k, e.mask.getLsbD k = true → h.tag.getLsbD k = e.tag.getLsbD k)
      ∧ (e.src = none ∨ e.src = some h.src) ∧ (e.dest = none ∨ e.dest = some h.dest)
    searchBank b p h = some i ↔ Matches b[i] ∧ ∀ j : Fin 64, j < i → ¬Matches b[j]

/-- R36, R38, R39, R62, R24: the header of a DATA, POLL or ANSWER frame that no entry decides. In RELAY the default action of its
direction forwards it or drops it (counted dropped-default); in FALLBACK it is forwarded without a search; in BYPASS and JOINING it
gets no decision. That the high-water mark stops at 96 where a stream breaks the line's rates is the model's [log 14]. -/
def Obligations.UnmatchedHeaderTakesDefault : Prop :=
  ∀ (p : Port) (b : Byte) (h : Header) (s : State), CompletesHeader p b h s →
    (kindOf h.kindFlags = .data ∨ kindOf h.kindFlags = .poll ∨ kindOf h.kindFlags = .answer) →
    let rx' := s.rx.set p (afterHeader b (s.rx.get p))
    let held := fun d => s.paths.set (dirIn p) (heldHeader h (s.rx.get p).sofTime d (s.paths.get (dirIn p)))
    (s.relay = .relay → searchBank s.engine.active p h = none → s.settings.defaults.get (dirIn p) = .pass →
      exec (.receiveDataByte p b) s = .next { s with
        rx := rx'
        paths := held { verdict := .forward, entry := .default, commit := .none, slot := none, agentCopy := false } })
    ∧ (s.relay = .relay → searchBank s.engine.active p h = none → s.settings.defaults.get (dirIn p) = .drop →
      exec (.receiveDataByte p b) s = .next { s with
        rx := rx'
        paths := held { verdict := .drop, entry := .default, commit := .none, slot := none, agentCopy := false }
        dirStats := s.dirStats.set (dirIn p)
          { s.dirStats.get (dirIn p) with droppedDefault := satInc (s.dirStats.get (dirIn p)).droppedDefault } })
    ∧ (s.relay = .fallback →
      exec (.receiveDataByte p b) s = .next { s with
        rx := rx'
        paths := held { verdict := .forward, entry := .none, commit := .none, slot := none, agentCopy := false } })
    ∧ (s.relay = .bypass ∨ s.relay = .joining → exec (.receiveDataByte p b) s = .next { s with rx := rx' })

/-- R39, R63, R64, R42, R78: the header that entry i decides in RELAY: its hit count rises and no other entry changes; PASS
forwards; DROP is counted dropped-entry; CAPTURE and TAKE (counted taken) name a capture commit, LEARN a learn commit, with the slot
and its setup generation, when the slot is of the kind the action needs; a slot of another kind is counted slot-mismatch and the
frame forwarded without a commit. That the high-water mark stops at 96 where a stream breaks the line's rates is the model's [log
14]. -/
def Obligations.DecidingEntryActs : Prop :=
  ∀ (p : Port) (b : Byte) (h : Header) (s : State) (i : Fin 64) (n : Fin 32), CompletesHeader p b h s → s.relay = .relay →
    (kindOf h.kindFlags = .data ∨ kindOf h.kindFlags = .poll ∨ kindOf h.kindFlags = .answer) →
    searchBank s.engine.active p h = some i →
    let e := s.engine.active[i]
    let d0 : Decision := { verdict := .forward, entry := .entry i, commit := .none, slot := none, agentCopy := false }
    let g := s.slots[n].gen
    let count := fun (f : DirCounters → DirCounters) => s.dirStats.set (dirIn p) (f (s.dirStats.get (dirIn p)))
    let result := fun (d : Decision) (c : PerDir DirCounters) =>
      { s with
        rx := s.rx.set p (afterHeader b (s.rx.get p))
        paths := s.paths.set (dirIn p) (heldHeader h (s.rx.get p).sofTime d (s.paths.get (dirIn p)))
        engine := s.engine.setBank s.engine.selector (s.engine.active.set i { e with hits := satInc e.hits })
        dirStats := c }
    let run := exec (.receiveDataByte p b) s
    (e.action = .pass → run = .next (result d0 s.dirStats))
    ∧ (e.action = .drop → run = .next (result { d0 with verdict := .drop }
        (count fun c => { c with droppedEntry := satInc c.droppedEntry })))
    ∧ (e.action = .capture → e.slot = some n → (∀ x, s.slots[n].body = .capture x →
        run = .next (result { d0 with commit := .capture n g } s.dirStats)))
    ∧ (e.action = .take → e.slot = some n → (∀ x, s.slots[n].body = .capture x →
        run = .next (result { d0 with verdict := .take, commit := .capture n g }
          (count fun c => { c with taken := satInc c.taken }))))
    ∧ (e.action = .learn → e.slot = some n → (∀ x, s.slots[n].body = .answer x →
        run = .next (result { d0 with commit := .learn n g } s.dirStats)))
    ∧ (e.slot = some n → ((e.action = .capture ∨ e.action = .take) ∧ (∀ x, s.slots[n].body ≠ .capture x))
          ∨ ((e.action = .learn ∨ e.action = .answer) ∧ (∀ x, s.slots[n].body ≠ .answer x)) →
        run = .next (result d0 (count fun c => { c with slotMismatch := satInc c.slotMismatch })))

/-- R37, R38, R42, R134: in RELAY and FALLBACK an MGMT header addressed to the part and every ASSIGN header are consumed for the
agent and counted consumed-agent; a broadcast MGMT header is forwarded with a copy for the agent; an MGMT header for another address
and an MREPLY header are forwarded; an unknown kind is forwarded and counted. R36, R134, R179: in BYPASS and JOINING none of them
gets a decision, and an MGMT header addressed to the part and an ASSIGN header are counted discarded-bypass. That the high-water
mark stops at 96 where a stream breaks the line's rates is the model's [log 14]. -/
def Obligations.ManagementHeadersAreSorted : Prop :=
  ∀ (p : Port) (b : Byte) (h : Header) (s : State), CompletesHeader p b h s →
    let rx' := s.rx.set p (afterHeader b (s.rx.get p))
    let d0 : Decision := { verdict := .forward, entry := .none, commit := .none, slot := none, agentCopy := false }
    let held := fun d => s.paths.set (dirIn p) (heldHeader h (s.rx.get p).sofTime d (s.paths.get (dirIn p)))
    let count := fun (f : DirCounters → DirCounters) => s.dirStats.set (dirIn p) (f (s.dirStats.get (dirIn p)))
    let consumed := count fun c => { c with consumedAgent := satInc c.consumedAgent }
    let inbox := fun k => s.inbox.set p (some { kind := k, src := h.src, seq := h.seq, payload := [] })
    let toPart := kindOf h.kindFlags = .mgmt ∧ h.dest = s.ownAddr ∧ s.ownAddr ≠ 255
    let run := exec (.receiveDataByte p b) s
    ((s.relay = .relay ∨ s.relay = .fallback) →
      (toPart → run = .next { s with
        rx := rx', paths := held { d0 with verdict := .consumeAgent }, dirStats := consumed, inbox := inbox (.request false) })
      ∧ (kindOf h.kindFlags = .mgmt → h.dest = 255 → run = .next { s with
        rx := rx', paths := held { d0 with agentCopy := true }, inbox := inbox (.request true) })
      ∧ (kindOf h.kindFlags = .mgmt → h.dest ≠ s.ownAddr → h.dest ≠ 255 →
        run = .next { s with rx := rx', paths := held d0 })
      ∧ (kindOf h.kindFlags = .assign → run = .next { s with
        rx := rx', paths := held { d0 with verdict := .consumeAssign }, dirStats := consumed, inbox := inbox .assign })
      ∧ (kindOf h.kindFlags = .mreply → run = .next { s with rx := rx', paths := held d0 })
      ∧ (kindOf h.kindFlags = .unknown → run = .next { s with
        rx := rx', paths := held d0, dirStats := count fun c => { c with unknownKind := satInc c.unknownKind } }))
    ∧ ((s.relay = .bypass ∨ s.relay = .joining) →
      (toPart ∨ kindOf h.kindFlags = .assign → run = .next { s with
        rx := rx', agentStats := { s.agentStats with discardedBypass := satInc s.agentStats.discardedBypass } })
      ∧ (¬toPart → kindOf h.kindFlags ≠ .assign → run = .next { s with rx := rx' }))

/-- R10, R41, R42, R134: a data byte of a frame in BODY. Of a FORWARD frame it becomes one more place of the detour store, and of a
frame with another decision (TAKE, DROP, ANSWERED, CONSUME-AGENT, CONSUME-ASSIGN) it enters no store. A payload byte enters the
check register, the commit buffer when the decision names a commit, and what the agent is receiving, when it receives the frame
(consumed or a copy); one of the last two bytes is kept as a check byte. A frame without a decision is only checked, but for the
agent's share of one whose decision the entry to BYPASS has abandoned [log 21]. That the high-water mark stops at 96 where a stream
breaks the line's rates is the model's [log 14]. -/
def Obligations.BodyByteOfForwardedFrame : Prop :=
  ∀ (p : Port) (b : Byte) (s : State), s.resetPin = false → restartDue s = false → (s.ports.get p).state = .synced →
    (s.rx.get p).delim = .body → (s.rx.get p).shortGap = false →
    let r := s.rx.get p
    let total := 10 + (headerOf r.header).len.toNat
    let path := s.paths.get (dirIn p)
    let asPayload := { s with
      rx := s.rx.set p { r with byteCount := r.byteCount + 1, check := checkByte r.check b }
      inbox := s.inbox.set p ((s.inbox.get p).map (fun x => { x with payload := x.payload ++ [b] })) }
    let asCheck := { s with rx := s.rx.set p { r with byteCount := r.byteCount + 1, checkBytes := r.checkBytes ++ [b] } }
    (∀ (f : InFlight) (fs : List StoredFrame) (x : StoredFrame), path.flight = some f →
      (f.decision.verdict = .forward → path.store = fs ++ [x]) →
      let next := fun buffer => s.paths.set (dirIn p) (if f.decision.verdict = .forward then
          { path with
            flight := some { f with buffer := buffer }
            store := fs ++ [{ x with bytes := x.bytes ++ [b] }]
            highWater := max path.highWater (min (occupancy path.store + 1) 96) }
        else { path with flight := some { f with buffer := buffer } })
      (r.byteCount + 2 < total → exec (.receiveDataByte p b) s = .next { asPayload with
        paths := next (if f.decision.commit = .none then f.buffer else f.buffer ++ [b]) })
      ∧ (total ≤ r.byteCount + 2 → r.byteCount < total → exec (.receiveDataByte p b) s = .next { asCheck with
        paths := next f.buffer }))
    ∧ (path.flight = none →
      (r.byteCount + 2 < total → exec (.receiveDataByte p b) s = .next asPayload)
      ∧ (total ≤ r.byteCount + 2 → r.byteCount < total → exec (.receiveDataByte p b) s = .next asCheck))

/-- R10, R11, R13, R16, R20, R43: a FORWARD frame ends with the class of R10's table: its end mark, EOF for GOOD and ABORT
otherwise, joins the detour store; the port counts the class, and a code error too; each adds 1 to the bucket; the hold and the
record are cleared; an SOF begins the next frame, with the short-gap mark. R44: where the frame names a commit, its end mark is a
separate matter: it joins the store whether the commit is made or abandoned. R45: the end of a DROP frame or of a coalesced poll,
and an end other than GOOD of a TAKE frame or of one consumed for the agent, clears the hold and the record and has no other effect
on the path. R46: at an end other than GOOD the agent discards what it was receiving, without execution. R36, R26: a frame without a
decision ends alike with nothing in its path, and in BYPASS its end, but not an SOF, brings JOINING about when both ports are SYNCED
and the other receiver is in GAP. R17, R20, R22, R28, R53: where the additions reach the bucket's limit, a frame of any decision or
of none is counted in its class first, the port enters FAULT, its faults entered +1, and the part BYPASS, where every through-frame
of the stores is counted poisoned. What the receiver keeps of an ended frame is the model's choice [log 41]. That a through-frame
which the entry to BYPASS cuts short is counted poisoned in that event, a byte time before its closing ABORT, is the model's choice
[log 42]; that the frame is settled in its path and with the agent before that entry [log 18], and that the port-change event is
added after it [log 17], are the model's too. That the high-water mark stops at 96 where a stream breaks the line's rates is the
model's [log 14]. -/
def Obligations.ForwardedFrameEnds : Prop :=
  ∀ (p : Port) (c : Instr) (s : State) (cls : EndClass), s.resetPin = false →
    (s.ports.get p).state = .synced → (s.rx.get p).delim = .body → (s.rx.get p).shortGap = false →
    (cls = .good → s.inbox.get p = none) →
    (s.rx.get p).byteCount ≤ 10 + (headerOf (s.rx.get p).header).len.toNat →
    bodyEnd p (10 + (headerOf (s.rx.get p).header).len.toNat) (s.rx.get p) c = some cls →
    let path := s.paths.get (dirIn p)
    let limit := (s.settings.bucketLimit.get p).toNat
    let adds := (if cls = .good then 0 else 1) + (if c = .codeError p then 1 else 0)
    let counters := countedEnd cls (if c = .codeError p then countedError (s.portStats.get p) else s.portStats.get p)
    let ended : State := { s with
      rx := s.rx.set p (if c = .receiveSof p then nextFrame s.timestamp else afterEnd (s.rx.get p))
      ports := s.ports.set p { s.ports.get p with bucket := (s.ports.get p).bucket + adds }
      portStats := s.portStats.set p counters
      inbox := s.inbox.set p none }
    (∀ (f : InFlight) (fs : List StoredFrame) (x : StoredFrame), path.flight = some f → f.decision.verdict = .forward →
      path.store = fs ++ [{ x with mark := none }] → restartDue s = false → s.relay ≠ .bypass →
      (s.ports.get p).bucket + adds < limit →
      let marked := s.paths.set (dirIn p) { path with
        flight := none
        store := fs ++ [{ x with mark := some (if cls = .good then .eof else .abort) }]
        highWater := max path.highWater (min (occupancy path.store + 1) 96) }
      (f.decision.commit = .none → exec c s = .next { ended with paths := marked })
      ∧ ∃ t, exec c s = .next t ∧ t.paths = marked ∧ t.rx = ended.rx ∧ t.ports = ended.ports ∧ t.portStats = ended.portStats
        ∧ t.inbox = ended.inbox ∧ t.relay = s.relay ∧ t.dirStats = s.dirStats ∧ t.engine = s.engine)
    ∧ (s.restartPending = false → cls ≠ .good → limit ≤ (s.ports.get p).bucket + adds →
      ∃ t, exec c s = .next t ∧ t.ports = s.ports.set p faultedPort ∧ t.relay = .bypass ∧ (t.rx.get p).delim = .gap
        ∧ t.portStats = s.portStats.set p (countedFault counters) ∧ t.inbox = ended.inbox
        ∧ t.slots = s.slots ∧ t.notice = (noted (portBit p) s).notice
        ∧ (s.relay ≠ .bypass →
          (∀ d, (t.paths.get d).store = [] ∧ (t.paths.get d).flight = none)
          ∧ (∀ d, (t.dirStats.get d).poisoned = satAdd (s.dirStats.get d).poisoned (s.paths.get d).store.length)
          ∧ (∀ q, t.queues.get q = { entries := [], held := false }))
        ∧ (s.relay = .bypass → path.flight = none →
          t.paths = s.paths ∧ t.queues = s.queues ∧ t.dirStats = s.dirStats))
    ∧ (∀ f : InFlight, path.flight = some f → restartDue s = false → s.relay ≠ .bypass → (s.ports.get p).bucket + adds < limit →
      (f.decision.verdict = .drop ∨ f.decision.verdict = .answered false ∨ cls ≠ .good ∧ (f.decision.verdict = .take
        ∨ f.decision.verdict = .consumeAgent ∨ f.decision.verdict = .consumeAssign)) →
      exec c s = .next { ended with paths := s.paths.set (dirIn p) { path with flight := none } })
    ∧ (path.flight = none → restartDue s = false → (s.ports.get p).bucket + adds < limit →
      exec c s = .next (if c = .receiveSof p then ended else joinedAfterEnd p s ended))

/-- R12, R13, R11: a frame with the short-gap mark reaches no decision: whatever ends it ends it ABORTED, and its path, the agent
and the queues are untouched; its eighth header byte, when its len is in range, reports nothing, and a further data byte below its
10 + len is counted and checked in the receiver and passed on to nobody. That it stands in HEADER and BODY like any other frame is
the model's choice [log 24]. R26: in BYPASS its end, but not an SOF, may bring JOINING about. R17, R20, R22, R28: where its end
fills the bucket, it is counted ABORTED first, and the port enters FAULT and the part BYPASS. What the receiver keeps of an ended
frame is the model's choice [log 41]. -/
def Obligations.ShortGapFrameReachesNothing : Prop :=
  (∀ (p : Port) (c : Instr) (s : State) (cls : EndClass), s.resetPin = false →
    (s.ports.get p).state = .synced → (s.rx.get p).delim = .body → (s.rx.get p).shortGap = true →
    s.inbox.get p = none → (s.paths.get (dirIn p)).flight = none →
    (s.rx.get p).byteCount ≤ 10 + (headerOf (s.rx.get p).header).len.toNat →
    bodyEnd p (10 + (headerOf (s.rx.get p).header).len.toNat) (s.rx.get p) c = some cls →
    let limit := (s.settings.bucketLimit.get p).toNat
    let bucket := (s.ports.get p).bucket + 1 + (if c = .codeError p then 1 else 0)
    let counters := countedEnd .aborted (if c = .codeError p then countedError (s.portStats.get p) else s.portStats.get p)
    let ended : State := { s with
      rx := s.rx.set p (if c = .receiveSof p then nextFrame s.timestamp else afterEnd (s.rx.get p))
      ports := s.ports.set p { s.ports.get p with bucket := bucket }
      portStats := s.portStats.set p counters }
    (restartDue s = false → bucket < limit →
      exec c s = .next (if c = .receiveSof p then ended else joinedAfterEnd p s ended))
    ∧ (s.restartPending = false → limit ≤ bucket →
      ∃ t, exec c s = .next t ∧ t.ports = s.ports.set p faultedPort ∧ t.relay = .bypass ∧ (t.rx.get p).delim = .gap
        ∧ t.portStats = s.portStats.set p (countedFault counters) ∧ t.slots = s.slots ∧ t.inbox = s.inbox
        ∧ t.notice = (noted (portBit p) s).notice
        ∧ (s.relay = .bypass → t.paths = s.paths ∧ t.queues = s.queues ∧ t.dirStats = s.dirStats)))
  ∧ (∀ (p : Port) (b : Byte) (s : State), s.resetPin = false → restartDue s = false → (s.ports.get p).state = .synced →
    (s.rx.get p).delim = .header → (s.rx.get p).shortGap = true → (s.rx.get p).byteCount = 7 →
    lenAccepted (headerOf ((s.rx.get p).header ++ [b])) = true →
    exec (.receiveDataByte p b) s = .next { s with rx := s.rx.set p (afterHeader b (s.rx.get p)) })
  ∧ ∀ (p : Port) (b : Byte) (s : State), s.resetPin = false → restartDue s = false → (s.ports.get p).state = .synced →
    (s.rx.get p).delim = .body → (s.rx.get p).shortGap = true →
    let r := s.rx.get p
    let total := 10 + (headerOf r.header).len.toNat
    (r.byteCount + 2 < total → exec (.receiveDataByte p b) s = .next { s with
      rx := s.rx.set p { r with byteCount := r.byteCount + 1, check := checkByte r.check b } })
    ∧ (total ≤ r.byteCount + 2 → r.byteCount < total → exec (.receiveDataByte p b) s = .next { s with
      rx := s.rx.set p { r with byteCount := r.byteCount + 1, checkBytes := r.checkBytes ++ [b] } })

/-! ## Commits, the agent's frames, the poll proxy -/

/-- R44, R86, R79, R91: the GOOD end, in RELAY, of a FORWARD or TAKE frame whose decision names a capture into a CAPTURE slot of the
recorded generation. That the relay state at the end alone counts, a FALLBACK in between not, is the model's choice [log 35]. The
record goes where R86's table puts it; the slot's event is added when its notify flag is set; no other slot and no place on the hold
list changes; the hold and the record of the path are cleared. -/
def Obligations.CaptureCommitFollowsTable : Prop :=
  ∀ (p : Port) (s : State) (f : InFlight) (n : Fin 32) (i : Fin 64), AtGoodEof p s → s.relay = .relay →
    s.inbox.get p = none → (s.paths.get (dirIn p)).flight = some f →
    (f.decision.verdict = .forward ∨ f.decision.verdict = .take) → f.decision.entry = .entry i →
    f.decision.commit = .capture n s.slots[n].gen →
    let r : CapturedRecord := { header := f.header, payload := f.buffer, sofTime := f.sofTime, port := p, entry := i }
    let x := s.slots[n]
    ∃ t, exec (.receiveEof p) s = .next t
      ∧ (x.body = .capture .empty → t.slots[n] = { x with body := .capture (.full r false) })
      ∧ (∀ c o, x.body = .capture (.full c o) →
          t.slots[n] = { x with count := satInc x.count, body := .capture (.full r true) })
      ∧ (∀ c o k, x.body = .capture (.held c o none k) → t.slots[n] = { x with body := .capture (.held c o (some r) k) })
      ∧ (∀ c o q k, x.body = .capture (.held c o (some q) k) →
          t.slots[n] = { x with count := satInc x.count, body := .capture (.held c o (some r) k) })
      ∧ (∀ m : Fin 32, m ≠ n → t.slots[m] = s.slots[m]) ∧ t.holdList = s.holdList
      ∧ ((∃ c, x.body = .capture c) → t.notice = if x.notify then (noted (slotBit n) s).notice else s.notice)
      ∧ t.portStats = s.portStats.set p (countedEnd .good (s.portStats.get p))
      ∧ (t.paths.get (dirIn p)).flight = none

/-- R44, R104, R79: the GOOD end, in RELAY, of a FORWARD frame whose decision names a learn into an ANSWER slot of the recorded
generation: the frame's payload, source LEARNED, the age aux × 10 ms, slot count and learns +1, and the slot's event when its notify
flag is set; max-age, notify, generation and every other slot stand. That the relay state at the end alone counts, a FALLBACK in
between not, is the model's choice [log 35]. -/
def Obligations.LearnCommitSetsAnswer : Prop :=
  ∀ (p : Port) (s : State) (f : InFlight) (n : Fin 32) (y : AnswerSlot), AtGoodEof p s → s.relay = .relay →
    s.inbox.get p = none → (s.paths.get (dirIn p)).flight = some f → f.decision.verdict = .forward →
    f.decision.commit = .learn n s.slots[n].gen → s.slots[n].body = .answer y →
    ∃ t, exec (.receiveEof p) s = .next t
      ∧ t.slots[n] = { s.slots[n] with
          count := satInc s.slots[n].count
          body := .answer { y with content := .learned f.buffer, age := BitVec.ofNat 16 (f.header.aux.toNat * 10) } }
      ∧ (∀ m : Fin 32, m ≠ n → t.slots[m] = s.slots[m])
      ∧ t.proxyStats = { s.proxyStats with learns := satInc s.proxyStats.learns }
      ∧ t.notice = (if s.slots[n].notify then (noted (slotBit n) s).notice else s.notice)
      ∧ (t.paths.get (dirIn p)).flight = none

/-- R44, R52: a commit is abandoned when its frame ends other than GOOD, when the relay state at the end is not RELAY, and when the
slot has been set up since the header: the slots, the hold list, the pending set and the PROXY group stand, and the record of the
path is cleared (the bucket stays below its limit here). -/
def Obligations.CommitAbandonedLeavesSlots : Prop :=
  ∀ (p : Port) (c : Instr) (s : State) (f : InFlight) (cls : EndClass) (n : Fin 32) (g : Byte), s.resetPin = false →
    restartDue s = false → (s.ports.get p).state = .synced → (s.rx.get p).delim = .body → (s.rx.get p).shortGap = false →
    s.inbox.get p = none → (s.paths.get (dirIn p)).flight = some f →
    (f.decision.verdict = .forward ∨ f.decision.verdict = .take) →
    (f.decision.commit = .capture n g ∨ f.decision.commit = .learn n g) →
    (s.ports.get p).bucket + 2 < (s.settings.bucketLimit.get p).toNat →
    bodyEnd p (10 + (headerOf (s.rx.get p).header).len.toNat) (s.rx.get p) c = some cls →
    (s.rx.get p).byteCount ≤ 10 + (headerOf (s.rx.get p).header).len.toNat →
    (cls ≠ .good ∨ s.relay ≠ .relay ∨ s.slots[n].gen ≠ g) →
    ∃ t, exec c s = .next t ∧ t.slots = s.slots ∧ t.holdList = s.holdList ∧ t.notice = s.notice
      ∧ t.proxyStats = s.proxyStats ∧ t.queues = s.queues ∧ (t.paths.get (dirIn p)).flight = none

/-- R46, R134, R135, R149: the GOOD end of a frame the agent has received is the request's (or the ASSIGN's) own event; that the EOF
is that event [log 2], that UNKNOWN_REQUEST stands for any payload [log 5] and the ASSIGN row for the frame's end [log 6] are the
model's choices. The EOF of a consumed request, or of a broadcast copy, does what the request row of its payload does after the
frame has been closed and counted good, an order that is the model's choice [log 40]; the EOF of an enumeration frame does what the
ASSIGN row does. Where the part has entered BYPASS since the header, which has abandoned the decision and left the frame to the
agent [log 21], the GOOD end of a request, of a broadcast copy whose code is IDENT, and of an enumeration frame is discarded and
counted discarded-bypass; another broadcast copy is ignored and not counted. In that event R26 may bring JOINING about. What the
receiver keeps of an ended frame is the model's choice [log 41]. That the high-water mark stops at 96 where a stream breaks the
line's rates is the model's [log 14]. -/
def Obligations.FrameEndRunsTheRequest : Prop :=
  (∀ (p : Port) (s : State) (f : InFlight) (src seq : Byte), AtGoodEof p s → s.relay ≠ .bypass →
    (s.paths.get (dirIn p)).flight = some f →
    let path := s.paths.get (dirIn p)
    let closed : State := { s with
      rx := s.rx.set p (afterEnd (s.rx.get p))
      portStats := s.portStats.set p (countedEnd .good (s.portStats.get p))
      inbox := s.inbox.set p none
      paths := s.paths.set (dirIn p) { path with flight := none } }
    (∀ (code : Byte) (ps : List Byte), f.decision.verdict = .consumeAgent →
      s.inbox.get p = some { kind := .request false, src := src, seq := seq, payload := code :: ps } →
      exec (.receiveEof p) s
        = exec (.unknownRequest { port := p, src := src, seq := seq, copy := false } code ps) closed)
    ∧ (∀ (code : Byte) (ps : List Byte) (fs : List StoredFrame) (x : StoredFrame), f.decision.verdict = .forward →
      f.decision.commit = .none →
      s.inbox.get p = some { kind := .request true, src := src, seq := seq, payload := code :: ps } →
      path.store = fs ++ [{ x with mark := none }] →
      exec (.receiveEof p) s
        = exec (.unknownRequest { port := p, src := src, seq := seq, copy := true } code ps) { closed with
            paths := s.paths.set (dirIn p) { path with
              flight := none
              store := fs ++ [{ x with mark := some .eof }]
              highWater := max path.highWater (min (occupancy path.store + 1) 96) } })
    ∧ (∀ (n : Byte) (rest : List Byte), f.decision.verdict = .consumeAssign →
      s.inbox.get p = some { kind := .assign, src := src, seq := seq, payload := n :: rest } →
      exec (.receiveEof p) s = exec (.assign p n) closed))
  ∧ ∀ (p : Port) (s : State) (x : Inbox) (code : Byte) (ps : List Byte), AtGoodEof p s → s.relay = .bypass →
    (s.paths.get (dirIn p)).flight = none → s.inbox.get p = some x → x.payload = code :: ps →
    let closed : State := { s with
      rx := s.rx.set p (afterEnd (s.rx.get p))
      portStats := s.portStats.set p (countedEnd .good (s.portStats.get p))
      inbox := s.inbox.set p none }
    ((x.kind = .request false ∨ x.kind = .assign ∨ x.kind = .request true ∧ code = 0x01) →
      exec (.receiveEof p) s = .next (joinedAfterEnd p s { closed with
        agentStats := { s.agentStats with discardedBypass := satInc s.agentStats.discardedBypass } }))
    ∧ (x.kind = .request true → code ≠ 0x01 → exec (.receiveEof p) s = .next (joinedAfterEnd p s closed))

/-- R182, R184: a payload is the request its code byte names, and for SLOT-READ and STATS-READ the selection byte picks the row.
That the row UNKNOWN_REQUEST with a known code is that request's row is the model's choice [log 5]: the manual's unknown request
(R152) has none of the seventeen codes. -/
def Obligations.CodeByteNamesTheRequest : Prop :=
  ∀ (e : Envelope) (ps : List Byte) (x : Byte) (s : State),
    exec (.unknownRequest e 0x01 ps) s = exec (.ident e ps) s
    ∧ exec (.unknownRequest e 0x02 ps) s = exec (.claim e ps) s
    ∧ exec (.unknownRequest e 0x03 ps) s = exec (.renounce e ps) s
    ∧ exec (.unknownRequest e 0x04 ps) s = exec (.settingsRead e ps) s
    ∧ exec (.unknownRequest e 0x05 ps) s = exec (.settingsWrite e ps) s
    ∧ exec (.unknownRequest e 0x10 ps) s = exec (.entryRead e ps) s
    ∧ exec (.unknownRequest e 0x11 ps) s = exec (.entryWrite e ps) s
    ∧ exec (.unknownRequest e 0x12 ps) s = exec (.entryClear e ps) s
    ∧ exec (.unknownRequest e 0x13 ps) s = exec (.bankCopy e ps) s
    ∧ exec (.unknownRequest e 0x14 ps) s = exec (.bankSwap e ps) s
    ∧ exec (.unknownRequest e 0x20 ps) s = exec (.slotSetup e ps) s
    ∧ exec (.unknownRequest e 0x21 ps) s = exec (.slotLoad e ps) s
    ∧ exec (.unknownRequest e 0x22 [x, 0]) s = exec (.slotReadWithoutHold e x) s
    ∧ exec (.unknownRequest e 0x22 [x, 1]) s = exec (.slotReadWithHold e x) s
    ∧ exec (.unknownRequest e 0x23 ps) s = exec (.slotRelease e ps) s
    ∧ exec (.unknownRequest e 0x30 ps) s = exec (.noticeAck e ps) s
    ∧ exec (.unknownRequest e 0x31 [x, 0]) s = exec (.statsReadWithoutClear e x) s
    ∧ exec (.unknownRequest e 0x31 [x, 1]) s = exec (.statsReadWithClear e x) s
    ∧ exec (.unknownRequest e 0x3F ps) s = exec (.restart e ps) s

/-- R106 to R109, R39, R107, R108, R116: the header of a POLL that an ANSWER entry with an ANSWER slot decides in RELAY, by the
first row of R106's table that holds. A miss is forwarded and counted under its reason; a repeat of the queued poll is taken off the
line and counted coalesced; otherwise a RESERVED entry with the poll's fields joins the arrival port's queue and the poll is taken
off the line and counted answered. That the high-water mark stops at 96 where a stream breaks the line's rates is the model's [log
14]. -/
def Obligations.PollIsTestedInOrder : Prop :=
  ∀ (p : Port) (b : Byte) (h : Header) (s : State) (i : Fin 64) (n : Fin 32) (y : AnswerSlot), CompletesHeader p b h s →
    s.relay = .relay → kindOf h.kindFlags = .poll → searchBank s.engine.active p h = some i →
    s.engine.active[i].action = .answer → s.engine.active[i].slot = some n → s.slots[n].body = .answer y →
    let e := s.engine.active[i]
    let d0 : Decision := { verdict := .forward, entry := .entry i, commit := .none, slot := none, agentCopy := false }
    let taken := fun (reserved : Bool) => ({ d0 with verdict := .answered reserved, slot := some (n, s.slots[n].gen) } : Decision)
    let result := fun (d : Decision) (c : ProxyCounters) (q : PerPort Queue) => ({ s with
        rx := s.rx.set p (afterHeader b (s.rx.get p))
        paths := s.paths.set (dirIn p) (heldHeader h (s.rx.get p).sofTime d (s.paths.get (dirIn p)))
        engine := s.engine.setBank s.engine.selector (s.engine.active.set i { e with hits := satInc e.hits })
        proxyStats := c
        queues := q } : State)
    let c := s.proxyStats
    let queued := (s.queues.get p).entries.find? (fun x => decide (x.body.slotField = some n))
    let run := exec (.receiveDataByte p b) s
    (noproxy h = true → run = .next (result d0 { c with missNoproxy := satInc c.missNoproxy } s.queues))
    ∧ (noproxy h = false → (h.dest = 0 ∨ h.dest = 255) →
        run = .next (result d0 { c with missNoStation := satInc c.missNoStation } s.queues))
    ∧ (noproxy h = false → h.dest ≠ 0 → h.dest ≠ 255 →
        (y.content = .none → run = .next (result d0 { c with missEmpty := satInc c.missEmpty } s.queues))
        ∧ (y.content ≠ .none → y.maxAge ≠ 0 → y.maxAge ≤ y.age →
            run = .next (result d0 { c with missStale := satInc c.missStale } s.queues))
        ∧ (y.content ≠ .none → (y.maxAge = 0 ∨ y.age < y.maxAge) →
            (∀ g r dst tag time,
              queued = some { body := .answer n g r h.src dst h.seq tag, time := time } →
              run = .next (result (taken false) { c with coalesced := satInc c.coalesced } s.queues))
            ∧ (∀ g r src dst seq tag time,
              queued = some { body := .answer n g r src dst seq tag, time := time } → (src ≠ h.src ∨ seq ≠ h.seq) →
              run = .next (result d0 { c with missBusy := satInc c.missBusy } s.queues))
            ∧ (queued = none → 16 ≤ (s.queues.get p).occupancy →
              run = .next (result d0 { c with missQueueFull := satInc c.missQueueFull } s.queues))
            ∧ (queued = none → (s.queues.get p).occupancy < 16 →
              run = .next (result (taken true) { c with answered := satInc c.answered }
                (enqueued p (.answer n s.slots[n].gen false h.src h.dest h.seq h.tag) s).queues))))

/-- R110, R45, R121: the end of an ANSWERED poll, at every symbol of R10's table. Of a poll that placed a reservation which still
stands in its arrival port's queue: at a GOOD end the entry becomes READY; at an end of any other class it is withdrawn, counted
withdrawn in the queue's direction and answer-lost-bad-poll. Where the entry is already gone, the end changes no entry and counts
nothing further, and a coalesced poll's end changes no entry, whatever its class. The port counts the class, a code error too, and
each adds 1 to the bucket (R13, R20). R28: where the additions reach the limit, the poll is settled first and the part enters BYPASS
then, where the rest of the queue is withdrawn, an order the model deduces [log 18]. What the receiver keeps of an ended frame is
the model's choice [log 41]. That the withdrawn count is then exactly the queue's entries rests on the port-change event being added
after the entry to BYPASS, so that no NOTICE is placed and withdrawn with them, the model's choice [log 17]. That the decision
records whether the poll placed a reservation is the model's form [log 23]. -/
def Obligations.PollEndSettlesReservation : Prop :=
  ∀ (p : Port) (c : Instr) (s : State) (cls : EndClass) (f : InFlight) (n : Fin 32) (g : Byte), s.resetPin = false →
    (s.ports.get p).state = .synced → (s.rx.get p).delim = .body → (s.rx.get p).shortGap = false → s.inbox.get p = none →
    s.relay ≠ .bypass → (s.rx.get p).byteCount ≤ 10 + (headerOf (s.rx.get p).header).len.toNat →
    bodyEnd p (10 + (headerOf (s.rx.get p).header).len.toNat) (s.rx.get p) c = some cls →
    (s.paths.get (dirIn p)).flight = some f → f.decision.slot = some (n, g) →
    let limit := (s.settings.bucketLimit.get p).toNat
    let adds := (if cls = .good then 0 else 1) + (if c = .codeError p then 1 else 0)
    let counters := countedEnd cls (if c = .codeError p then countedError (s.portStats.get p) else s.portStats.get p)
    let closed := fun (q : Queue) => ({ s with
        rx := s.rx.set p (if c = .receiveSof p then nextFrame s.timestamp else afterEnd (s.rx.get p))
        ports := s.ports.set p { s.ports.get p with bucket := (s.ports.get p).bucket + adds }
        portStats := s.portStats.set p counters
        paths := s.paths.set (dirIn p) { s.paths.get (dirIn p) with flight := none }
        queues := s.queues.set p q } : State)
    (∀ src dst seq tag time pre post,
      let entry := fun (ready : Bool) => ({ body := .answer n g ready src dst seq tag, time := time } : QEntry)
      let others := { s.queues.get p with entries := pre ++ post }
      f.decision.verdict = .answered true → (s.queues.get p).entries = pre ++ entry false :: post →
      (∀ x ∈ pre ++ post, x.body.isReady = true) →
      (restartDue s = false → cls = .good → exec c s = .next (closed { s.queues.get p with entries := pre ++ entry true :: post }))
      ∧ (restartDue s = false → cls ≠ .good → (s.ports.get p).bucket + adds < limit → exec c s = .next { closed others with
          dirStats := s.dirStats.set (dirOut p)
            { s.dirStats.get (dirOut p) with withdrawn := satInc (s.dirStats.get (dirOut p)).withdrawn }
          proxyStats := { s.proxyStats with answerLostBadPoll := satInc s.proxyStats.answerLostBadPoll } })
      ∧ (s.restartPending = false → cls ≠ .good → limit ≤ (s.ports.get p).bucket + adds →
        ∃ t, exec c s = .next t ∧ t.relay = .bypass ∧ t.ports = s.ports.set p faultedPort
          ∧ (∀ q, t.queues.get q = { entries := [], held := false })
          ∧ t.proxyStats = { s.proxyStats with answerLostBadPoll := satInc s.proxyStats.answerLostBadPoll }
          ∧ (t.dirStats.get (dirOut p)).withdrawn
            = satAdd (s.dirStats.get (dirOut p)).withdrawn (s.queues.get p).entries.length))
    ∧ ((f.decision.verdict = .answered false ∨ f.decision.verdict = .answered true
          ∧ ∀ x ∈ (s.queues.get p).entries, ∀ src dst seq tag, x.body ≠ .answer n g false src dst seq tag) →
      (restartDue s = false → (cls ≠ .good → (s.ports.get p).bucket + adds < limit) →
        exec c s = .next (closed (s.queues.get p)))
      ∧ (s.restartPending = false → cls ≠ .good → limit ≤ (s.ports.get p).bucket + adds →
        ∃ t, exec c s = .next t ∧ t.relay = .bypass ∧ t.ports = s.ports.set p faultedPort
          ∧ (∀ q, t.queues.get q = { entries := [], held := false }) ∧ t.proxyStats = s.proxyStats
          ∧ (t.dirStats.get (dirOut p)).withdrawn
            = satAdd (s.dirStats.get (dirOut p)).withdrawn (s.queues.get p).entries.length))

/-! ## Outputs and queues -/

/-- R49 condition 1: at a FREE output in RELAY or FALLBACK the head frame of a detour store that holds one is started; where the
condition does not hold the command changes nothing [log 4]. R49, R24, R127: no entry is moved out in BYPASS or JOINING, at an
output that is not FREE, past a detour store that is not empty, while the feeding receiver is in a frame, or with no READY entry:
each move-out then changes nothing [log 4]. -/
def Obligations.OutputsStartOnlyWhenFree : Prop :=
  ((∀ (p : Port) (s : State), s.resetPin = false → (s.relay = .relay ∨ s.relay = .fallback) →
     (s.paths.get (dirOut p)).tx = .between 2 → (s.paths.get (dirOut p)).store ≠ [] →
     exec (.throughFrameStart p) s = .next { s with
       paths := s.paths.set (dirOut p) { s.paths.get (dirOut p) with tx := .through false } })
   ∧ ∀ (p : Port) (s : State), (s.relay = .bypass ∨ s.relay = .joining ∨ (s.paths.get (dirOut p)).tx.isFree = false
       ∨ (s.paths.get (dirOut p)).store = []) → exec (.throughFrameStart p) s = .next s)
  ∧ (∀ (p : Port) (c : Instr) (s : State),
     (c = .moveOutAnswer p ∨ c = .moveOutMreply p ∨ c = .moveOutNotice p ∨ c = .moveOutAssign p ∨ c = .moveOutBeacon p) →
     (s.relay = .bypass ∨ s.relay = .joining ∨ (s.paths.get (dirOut p)).tx.isFree = false
       ∨ (s.paths.get (dirOut p)).store ≠ [] ∨ (s.rx.get (otherPort p)).delim ≠ .gap
       ∨ ∀ x ∈ (s.queues.get p).entries, x.body.isReady = false) →
     exec c s = .next s)

/-- R14, R16, R24, R35, R43, R48, R49, R53, R121: one byte time of a transmitter in RELAY or FALLBACK: IDLE between frames and at a
FREE output for which no condition of R49 holds (an empty store, and a receiver in a frame or no READY entry), the SOF, the data
bytes and the end symbol of a through-frame (counted forwarded or poisoned) or of an injection. At a FREE output it makes R49's
choice itself where no row has made it, the model's choice [log 16]: a stored frame's SOF is sent, and a selected entry is moved out
as its own row does and its SOF sent. In JOINING it sends IDLE, in BYPASS the closing ABORT of a frame cut short, or nothing, and
the BYPASS output is asserted once no closing symbol is left, a moment the model deduces [log 20]; that this ABORT counts nothing is
the model's choice [log 42]. -/
def Obligations.TransmitterSendsSymbol : Prop :=
  ∀ (p : Port) (s : State), s.resetPin = false → restartDue s = false →
    let path := s.paths.get (dirOut p)
    let sent := fun (x : Symbol) (tx : Tx) (store : List StoredFrame) =>
      { s with paths := s.paths.set (dirOut p) { path with line := some x, tx := tx, store := store } }
    let count := fun (f : DirCounters → DirCounters) => s.dirStats.set (dirOut p) (f (s.dirStats.get (dirOut p)))
    let run := exec (.transmitSymbol p) s
    ((s.relay = .relay ∨ s.relay = .fallback) →
      (∀ n, path.tx = .between n → n < 2 → run = .next (sent .idle (.between (n + 1)) path.store))
      ∧ (path.tx = .between 2 → path.store = [] → (s.rx.get (otherPort p)).delim ≠ .gap
          ∨ (∀ x ∈ (s.queues.get p).entries, x.body.isReady = false) →
          run = .next (sent .idle (.between 2) []))
      ∧ (path.tx = .between 2 → path.store ≠ [] → run = .next (sent .sof (.through true) path.store))
      ∧ (∀ x rest t, Selects p x rest s → exec (moveOutRow p x.body) s = .next t →
          run = exec (.transmitSymbol p) t
          ∧ ∃ bs m, (t.paths.get (dirOut p)).tx = .injection false bs m)
      ∧ (path.tx = .through false → run = .next (sent .sof (.through true) path.store))
      ∧ (∀ b bs m fs, path.tx = .through true → path.store = { bytes := b :: bs, mark := m } :: fs →
          run = .next (sent (.data b) (.through true) ({ bytes := bs, mark := m } :: fs)))
      ∧ (∀ fs, path.tx = .through true → path.store = { bytes := [], mark := some .eof } :: fs →
          run = .next { sent .eof (.between 0) fs with
            dirStats := count fun c => { c with forwarded := satInc c.forwarded } })
      ∧ (∀ fs, path.tx = .through true → path.store = { bytes := [], mark := some .abort } :: fs →
          run = .next { sent .abort (.between 0) fs with
            dirStats := count fun c => { c with poisoned := satInc c.poisoned } })
      ∧ (∀ bs m, path.tx = .injection false bs m → run = .next (sent .sof (.injection true bs m) path.store))
      ∧ (∀ b bs m, path.tx = .injection true (b :: bs) m →
          run = .next (sent (.data b) (.injection true bs m) path.store))
      ∧ (path.tx = .injection true [] false → run = .next (sent .eof (.between 0) path.store)))
    ∧ (s.relay = .joining → ∀ n, path.tx = .between n → run = .next (sent .idle (.between (min 2 (n + 1))) path.store))
    ∧ (s.relay = .bypass → path.tx = .closing false → run = .next { sent .abort (.between 2) path.store with
        bypassPin := s.bypassPin || !(s.paths.get (dirIn p)).tx.isClosing })
    ∧ (s.relay = .bypass → path.tx.isClosing = false → run = .next { s with
        paths := s.paths.set (dirOut p) { path with line := none }
        bypassPin := s.bypassPin || !(s.paths.get (dirIn p)).tx.isClosing })

/-- R122: the entry a queue moves out. Among the READY entries it has the lowest class that has any, and of that class it is the
READY entry nearest the oldest end; the others keep their order; nothing is selected when no entry is READY. -/
def Obligations.SelectionTakesLowestClassOldest : Prop :=
  ∀ (es : List QEntry),
    (∀ (x : QEntry) (rest : List QEntry), selectEntry es = some (x, rest) ↔
      ∃ pre post, es = pre ++ x :: post ∧ rest = pre ++ post ∧ x.body.isReady = true
        ∧ (∀ y ∈ es, y.body.isReady = true → x.body.cls ≤ y.body.cls)
        ∧ (∀ y ∈ pre, y.body.isReady = true → y.body.cls ≠ x.body.cls))
    ∧ (selectEntry es = none ↔ ∀ y ∈ es, y.body.isReady = false)

/-- R111, R51: the move-out of an ANSWER entry builds the ANSWER frame from the poll's fields and the slot as it stands: dest the
poll's src, src the poll's dest, its seq and tag, the slot's payload, aux the whole 10 ms units of its age, 255 at most; the
direction counts injected-answer; the slot is unchanged. R132, R125, R51: the move-out of a BEACON entry builds the DATA frame from
the slot, src the own address and seq the beacon seq, which then advances by 1; the frame is counted injected-beacon. -/
def Obligations.SlotMoveOutsBuildFrames : Prop :=
  (∀ (p : Port) (s : State) (n : Fin 32) (g src dst seq : Byte) (tag : Half) (time : Wide) (rest : List QEntry)
     (y : AnswerSlot), Selects p { body := .answer n g true src dst seq tag, time := time } rest s →
     s.slots[n].body = .answer y →
     let payload := answerBytes y.content
     exec (.moveOutAnswer p) s = .next (movedOut p rest
       (withCheck ([0x30, src, dst, seq] ++ bytes16 tag
         ++ [BitVec.ofNat 8 payload.length, BitVec.ofNat 8 (min (y.age.toNat / 10) 255)] ++ payload)) false
       (fun c => { c with injectedAnswer := satInc c.injectedAnswer }) s))
  ∧ (∀ (p : Port) (s : State) (n : Fin 32) (time : Wide) (rest : List QEntry) (y : BeaconSlot),
     Selects p { body := .beacon n, time := time } rest s → s.slots[n].body = .beacon y →
     exec (.moveOutBeacon p) s = .next (movedOut p rest
       (withCheck ([0x10, y.dest, s.ownAddr, y.seq] ++ bytes16 y.tag ++ [BitVec.ofNat 8 y.payload.length, 0] ++ y.payload))
       false (fun c => { c with injectedBeacon := satInc c.injectedBeacon })
       { s with slots := s.slots.set n { s.slots[n] with body := .beacon { y with seq := y.seq + 1 } } }))

/-- R125, R136, R149, R51: the move-outs of an MREPLY and of an ASSIGN entry. The reply's header is the entry's, with tag 0 and aux
0; the regenerated ASSIGN has dest 255, src the own address, seq 0 and the entry's byte. Each is counted injected-reply. R174: the
move-out of the NOTICE entry builds the MREPLY frame 80H, 00H, pending set, to the owner with seq the notice number; every addition
mark is cleared while the events stay pending; the number advances; the repeat timer starts with the settings' repeat time; the
frame is counted injected-reply. -/
def Obligations.ReplyMoveOutsBuildFrames : Prop :=
  (∀ (p : Port) (s : State) (time : Wide) (rest : List QEntry),
     (∀ (dest src seq : Byte) (payload : List Byte) (named : Bool),
       Selects p { body := .mreply dest src seq payload named, time := time } rest s →
       exec (.moveOutMreply p) s = .next (movedOut p rest
         (withCheck ([0x90, dest, src, seq, 0, 0, BitVec.ofNat 8 payload.length, 0] ++ payload)) named
         (fun c => { c with injectedReply := satInc c.injectedReply }) s))
     ∧ ∀ b : Byte, Selects p { body := .assign b, time := time } rest s →
       exec (.moveOutAssign p) s = .next (movedOut p rest
         (withCheck [0xA0, 255, s.ownAddr, 0, 0, 0, 1, 0, b]) false
         (fun c => { c with injectedReply := satInc c.injectedReply }) s))
  ∧ (∀ (p : Port) (s : State) (time : Wide) (rest : List QEntry) (o : Owner),
     Selects p { body := .notice, time := time } rest s → s.owner = some o →
     exec (.moveOutNotice p) s = .next (movedOut p rest
       (withCheck ([0x90, o.addr, s.ownAddr, s.notice.number, 0, 0, 7, 0, 0x80, 0x00] ++ eventBytes s.notice.pending)) false
       (fun c => { c with injectedReply := satInc c.injectedReply })
       { s with notice := { s.notice with
           marks := 0, number := s.notice.number + 1, repeatTimer := some s.settings.repeatTime.toNat } }))

/-- R173, R176, R118, R120: offering a NOTICE. The entry joins the queue of the owner port exactly when the pending set is not
empty, an owner stands, no NOTICE entry stands in either queue, the repeat timer is STOPPED, the relay state is RELAY or FALLBACK
and that queue has room; otherwise nothing changes. -/
def Obligations.NoticeIsOfferedToOwnerPort : Prop :=
  ∀ (s : State),
    (∀ o, s.owner = some o → s.notice.pending ≠ 0 → s.notice.repeatTimer = none →
      (s.relay = .relay ∨ s.relay = .fallback) → (∀ p, ∀ x ∈ (s.queues.get p).entries, x.body ≠ .notice) →
      (s.queues.get o.port).occupancy < 16 → offerNotice s = enqueued o.port .notice s)
    ∧ ((s.owner = none ∨ s.notice.pending = 0 ∨ s.notice.repeatTimer ≠ none ∨ s.relay = .bypass ∨ s.relay = .joining
        ∨ (∃ p, ∃ x ∈ (s.queues.get p).entries, x.body = .notice)
        ∨ (∃ o, s.owner = some o ∧ 16 ≤ (s.queues.get o.port).occupancy)) → offerNotice s = s)

/-! ## Time -/

/-- R33, R34, R20, R22, R27, R101, R123, R130, R131, R173. TIMESTAMP_COUNTER_ADVANCE: the timestamp rises by 1, wrapping, and the
divider with it; a 1 ms tick falls at every 1000th µs, a 10 ms tick at every tenth of these, a 100 ms tick at every tenth of those.
A tick row takes the tick that has fallen; where none has, it changes nothing [log 4]; a tick that no row has taken is taken as the
next µs begins, the 1 ms tick first [log 7]. TICK_1MS where neither a cool-down nor the settle timer runs out: every bucket above 0
falls by 1, every running cool-down, settle and beacon timer counts one tick, one that was at its last starting its next full
interval, and the age of every answer slot with a payload rises by 1 ms and stops at 65535. In its event both queues age out, the
notice condition checked once after both where a NOTICE was over age [log 13], and each beacon timer that ran out acts as
BEACON_EXPIRY acts [log 2], in an order left free [log 11], before or after the age-out [log 12]. Nothing else changes but the
model's own counter of free choices. (The reply a waiting restart names, over age, is in RestartWaitsThenClears.) At its last tick
the cool-down ends, JOINING ends, and a beacon timer starts its next full interval, in the tick's own event [log 2]; an interval of
1 ms that a SLOT-SETUP has started just before the tick is no exception, the model's choice between R130 and R131 [log 38]. -/
def Obligations.TimeBaseCounts : Prop :=
  (∀ s : State, s.resetPin = false → s.due = { one := false, ten := false, hundred := false } →
    let d := (s.divider + 1) % 100000
    exec .timestampCounterAdvance s = .next { s with
      timestamp := s.timestamp + 1
      divider := d
      due := { one := decide (d % 1000 = 0), ten := decide (d % 10000 = 0), hundred := decide (d = 0) } })
  ∧ (∀ s t : State,
    (s.due.one = true → exec .tick1ms s = .next t →
      exec .timestampCounterAdvance s = exec .timestampCounterAdvance t)
    ∧ (s.due.one = false → s.due.ten = true → exec .tick10ms s = .next t →
      exec .timestampCounterAdvance s = exec .timestampCounterAdvance t)
    ∧ (s.due.one = false → s.due.ten = false → s.due.hundred = true → exec .tick100ms s = .next t →
      exec .timestampCounterAdvance s = exec .timestampCounterAdvance t))
  ∧ (∀ s : State, s.due.one = false → exec .tick1ms s = .next s)
  ∧ (∀ s : State, s.resetPin = false → s.due.one = true → restartDue s = false →
    (∀ p k, (s.ports.get p).coolDown = some k → 2 ≤ k) → (∀ k, s.settle = some k → 2 ≤ k) →
    (∀ p, ∀ x ∈ (s.queues.get p).entries, s.settings.ageLimit.toNat * 1000 < (s.timestamp - x.time).toNat →
      x.body.isNamed = false) →
    ∃ (u : State) (fired : List (Fin 32)),
      (exec .tick1ms s = .next (ran (fired.map .beaconExpiry) (agedOut u))
        ∨ exec .tick1ms s = .next (agedOut (ran (fired.map .beaconExpiry) u)))
      ∧ fired.Nodup ∧ (∀ n, n ∈ fired ↔ ∃ k, s.slots[n].beaconTimer = some k ∧ k ≤ 1)
      ∧ u = { s with
          due := { s.due with one := false }
          ports := u.ports, settle := u.settle, slots := u.slots, freeCount := u.freeCount }
      ∧ (∀ p, u.ports.get p = { s.ports.get p with
          bucket := (s.ports.get p).bucket - 1, coolDown := (s.ports.get p).coolDown.map (fun k => k - 1) })
      ∧ u.settle = s.settle.map (fun k => k - 1)
      ∧ ∀ n : Fin 32,
          (∀ y, s.slots[n].body = .beacon y → u.slots[n] = { s.slots[n] with
            body := .beacon { y with timer := y.timer.map (fun k => if k ≤ 1 then y.interval.toNat else k - 1) } })
          ∧ (∀ y, s.slots[n].body = .answer y → y.content ≠ .none →
            u.slots[n] = { s.slots[n] with body := .answer { y with age := satInc y.age } })
          ∧ ((∀ y, s.slots[n].body ≠ .beacon y) → (∀ y, s.slots[n].body = .answer y → y.content = .none) →
            u.slots[n] = s.slots[n]))
  ∧ (∀ (p : Port) (s : State), s.resetPin = false → s.due.one = true → s.restartPending = false →
    (s.ports.get p).coolDown = some 1 →
    ∃ t, exec .tick1ms s = .next t ∧ t.ports.get p = {
      state := if s.signal.get p then .syncing else .down
      syncIdle := 0
      bucket := (s.ports.get p).bucket - 1
      coolDown := none })
  ∧ (∀ s : State, s.resetPin = false → s.due.one = true → s.restartPending = false → s.relay = .joining →
    s.settle = some 1 →
    ∃ t, exec .tick1ms s = .next t ∧ t.settle = none ∧ t.relay = if s.latch then .fallback else .relay)
  ∧ ∀ (n : Fin 32) (y : BeaconSlot) (s : State), s.resetPin = false → s.due.one = true → s.restartPending = false →
    s.slots[n].body = .beacon y → y.timer = some 1 →
    ∃ t, exec .tick1ms s = .next t ∧ t.slots[n].body = .beacon { y with timer := some y.interval.toNat }

/-- R123, R124, R120, R173: QUEUE_AGE_OUT withdraws every entry whose age, modulo 2^32, exceeds the queue age limit, whatever its
source and state, counted stale-aged in the queue's direction and not withdrawn; the others keep their order and the held place
stands. When a NOTICE entry is among the withdrawn the notice condition is checked again. That the row acts on one queue, at
whatever timestamp stands, is the model's choice [log 3]: R123 ages out at a 1 ms tick, both queues (TimeBaseCounts). The reply that
a waiting restart names, over age, is in RestartWaitsThenClears. -/
def Obligations.AgeOutWithdrawsOldEntries : Prop :=
  ∀ (p : Port) (s : State), s.resetPin = false → restartDue s = false →
    let old := fun (x : QEntry) => s.settings.ageLimit.toNat * 1000 < (s.timestamp - x.time).toNat
    let q := s.queues.get p
    let u : State := { s with
      queues := s.queues.set p { q with entries := q.entries.filter (fun x => decide (¬old x)) }
      dirStats := s.dirStats.set (dirOut p) { s.dirStats.get (dirOut p) with
        staleAged := satAdd (s.dirStats.get (dirOut p)).staleAged (q.entries.filter (fun x => decide (old x))).length } }
    (∀ x ∈ q.entries, old x → x.body.isNamed = false) →
    ((∀ x ∈ q.entries, x.body = .notice → ¬old x) → exec (.queueAgeOut p) s = .next u)
    ∧ ((∃ x ∈ q.entries, x.body = .notice ∧ old x) → exec (.queueAgeOut p) s = .next (offerNotice u))

/-- R130, R131, R79, R173: the expiry of a RUNNING beacon timer, which starts its next full interval. On a port its ports field
names, in RELAY, with room and no entry naming the slot in that queue, a READY BEACON entry is placed; otherwise the expiry is late:
slot count +1, and the slot's event when its notify flag is set, the notice condition then checked. BOTH acts on Port A, then on
Port B. The row acts with any number of ticks left, the model's choice [log 3]. A slot without a running beacon timer is left as it
is [log 4]. -/
def Obligations.BeaconExpiryPlacesOrIsLate : Prop :=
  (∀ (n : Fin 32) (y : BeaconSlot) (s : State), s.resetPin = false → s.slots[n].body = .beacon y → y.timer ≠ none →
    let u : State :=
      { s with slots := s.slots.set n { s.slots[n] with body := .beacon { y with timer := some y.interval.toNat } } }
    let late := fun (v : State) => { v with slots := v.slots.set n { v.slots[n] with count := satInc v.slots[n].count } }
    let acts := fun (p : Port) (v : State) =>
      if v.relay = .relay ∧ (v.queues.get p).occupancy < 16
          ∧ (∀ z ∈ (v.queues.get p).entries, z.body.slotField ≠ some n) then enqueued p (.beacon n) v
      else if v.slots[n].notify then offerNotice (noted (slotBit n) (late v))
      else late v
    exec (.beaconExpiry n) s = .next (match y.ports with
      | .a => acts .a u
      | .b => acts .b u
      | .both => acts .b (acts .a u)))
  ∧ ∀ (n : Fin 32) (s : State), s.slots[n].beaconTimer = none → exec (.beaconExpiry n) s = .next s

/-- R94, R95, R79, R173: what a hold's lapse leaves, here of its lapse timer, with any ticks left [log 3]. With no pending record
the slot becomes FULL with the held content, overrun and slot count unchanged; with one, the pending record is the content, overrun
is set, slot count +1. The slot leaves the hold list with its timer, its event is added when the notify flag is set, and the notice
condition is then checked. A slot that is not HELD is left as it is, the model's choice [log 4]. -/
def Obligations.LapseReturnsSlotToFull : Prop :=
  (∀ (n : Fin 32) (s : State) (c : CapturedRecord) (o : Bool) (q : Option CapturedRecord) (k : Nat), s.resetPin = false →
    s.slots[n].body = .capture (.held c o q k) →
    let u : State := { s with
      slots := s.slots.set n (match q with
        | none => { s.slots[n] with body := .capture (.full c o) }
        | some r => { s.slots[n] with body := .capture (.full r true), count := satInc s.slots[n].count })
      holdList := s.holdList.filter (fun m => decide (m ≠ n)) }
    exec (.holdTimerExpiry n) s = .next (if s.slots[n].notify then offerNotice (noted (slotBit n) u) else u))
  ∧ ∀ (n : Fin 32) (s : State), s.slots[n].isHeld = false → exec (.holdTimerExpiry n) s = .next s

/-- R34, R92, R95, R175, R173: TICK_10MS takes the 10 ms tick that has fallen; where none has, it changes nothing [log 4] [log 7].
Where no timer runs out it counts one tick of every lapse timer and of the repeat timer and checks the notice condition. At its last
tick a hold lapses and leaves the hold list, and the repeat timer stops, in the tick's event [log 2]; a hold time of 1 unit that a
hold read has restarted just before the tick is no exception, the model's choice between R92 and R96 [log 37]. NOTICE_REPEAT_EXPIRY
stops a running repeat timer and checks the condition; with the timer STOPPED it changes nothing [log 3]. -/
def Obligations.TenMillisecondTimersRunOut : Prop :=
  (∀ s : State, s.due.ten = false → exec .tick10ms s = .next s)
  ∧ (∀ s : State, s.resetPin = false → s.due.ten = true →
    (∀ (n : Fin 32) c o q k, s.slots[n].body = .capture (.held c o q k) → 2 ≤ k) →
    (∀ k, s.notice.repeatTimer = some k → 2 ≤ k) →
    ∃ u, exec .tick10ms s = .next (offerNotice u)
      ∧ u = { s with
          due := { s.due with ten := false }
          slots := u.slots
          notice := { s.notice with repeatTimer := s.notice.repeatTimer.map (fun k => k - 1) } }
      ∧ ∀ n : Fin 32,
          (∀ c o q k, s.slots[n].body = .capture (.held c o q k) →
            u.slots[n] = { s.slots[n] with body := .capture (.held c o q (k - 1)) })
          ∧ (s.slots[n].isHeld = false → u.slots[n] = s.slots[n]))
  ∧ (∀ (n : Fin 32) (s : State) (c : CapturedRecord) (o : Bool) (q : Option CapturedRecord), s.resetPin = false →
    s.due.ten = true → s.slots[n].body = .capture (.held c o q 1) →
    ∃ t, exec .tick10ms s = .next t ∧ n ∉ t.holdList ∧ t.slots[n] = (match q with
        | none => { s.slots[n] with body := .capture (.full c o) }
        | some r => { s.slots[n] with body := .capture (.full r true), count := satInc s.slots[n].count }))
  ∧ (∀ s : State, s.resetPin = false → s.due.ten = true → s.notice.repeatTimer = some 1 →
    ∃ t, exec .tick10ms s = .next t ∧ t.notice.repeatTimer = none)
  ∧ (∀ s : State, s.resetPin = false → s.notice.repeatTimer ≠ none →
    exec .noticeRepeatExpiry s = .next (offerNotice { s with notice := { s.notice with repeatTimer := none } }))
  ∧ ∀ s : State, s.notice.repeatTimer = none → exec .noticeRepeatExpiry s = .next s

/-- R143, R144, R95, R29, R130: TICK_100MS takes the 100 ms tick that has fallen; where none has, it changes nothing [log 4] [log
7]. It takes 1 from the remaining lease, and at its last unit does what LEASE_EXPIRY does; a lease of 1 renewed just before the tick
is no exception, the model's choice between R143 and R145 [log 33]. LEASE_EXPIRY acts at any remaining lease, the model's choice
[log 3]. The expiry leaves no owner, lapses every hold and withdraws a NOTICE entry; under policy FALLBACK it also sets the fallback
latch, which stops every beacon timer and, in RELAY, makes it FALLBACK with every ANSWER and BEACON entry withdrawn. Without an
owner the tick changes nothing in the record (R143), and LEASE_EXPIRY changes nothing, the model's choice [log 4]. -/
def Obligations.LeaseRunsOut : Prop :=
  (∀ s : State, s.resetPin = false →
    let taken : State := { s with due := { s.due with hundred := false } }
    (s.due.hundred = false → exec .tick100ms s = .next s)
    ∧ (s.due.hundred = true →
      (∀ o, s.owner = some o → 2 ≤ o.lease →
        exec .tick100ms s = .next { taken with owner := some { o with lease := o.lease - 1 } })
      ∧ (∀ o, s.owner = some o → o.lease = 1 → exec .tick100ms s = exec .leaseExpiry taken)
      ∧ (s.owner = none → exec .tick100ms s = .next taken)))
  ∧ (∀ s : State, s.owner = none → exec .leaseExpiry s = .next s)
  ∧ ∀ (s : State) (o : Owner), s.resetPin = false → s.owner = some o →
    let leaves := fun (x : QEntry) =>
      decide (x.body = .notice) || (decide (o.policy = .fallback ∧ s.relay = .relay) && x.body.hasSlot)
    ∃ t, exec .leaseExpiry s = .next t ∧ t.owner = none ∧ t.holdList = []
      ∧ (∀ p, t.queues.get p = { s.queues.get p with entries := (s.queues.get p).entries.filter (fun x => !leaves x) })
      ∧ (∀ (n : Fin 32) c k q, n ∈ s.holdList → s.slots[n].body = .capture (.held c k none q) →
          t.slots[n] = { s.slots[n] with body := .capture (.full c k) })
      ∧ (∀ (n : Fin 32) c k r q, n ∈ s.holdList → s.slots[n].body = .capture (.held c k (some r) q) →
          t.slots[n] = { s.slots[n] with body := .capture (.full r true), count := satInc s.slots[n].count })
      ∧ (∀ (n : Fin 32) y, s.slots[n].body = .beacon y →
          t.slots[n] = if o.policy = .fallback then { s.slots[n] with body := .beacon { y with timer := none } }
            else s.slots[n])
      ∧ t.latch = (s.latch || decide (o.policy = .fallback))
      ∧ t.relay = (if o.policy = .fallback ∧ s.relay = .relay then .fallback else s.relay)
      ∧ t.settings = s.settings ∧ t.engine = s.engine ∧ t.paths = s.paths ∧ t.cache = s.cache ∧ t.ports = s.ports

/-! ## The match table's requests -/

/-- R67 to R70, R147, R151: a BANK-COPY of the owner starts with copy position 0: it keeps its reply room as the held place, is
recorded IN-PROGRESS and counted executed; a second one while it runs is answered BUSY. Each BANK_COPY_ADVANCE copies the entry at
the copy position, its hit count 0, into the staging bank, and the 64th does what BANK_COPY_COMPLETE does [log 2]. The completion
leaves the staging bank the active bank's copy with every hit count 0, the generation +1 and the mark clear, and answers in the held
place if it still stands. The model's choices in it: BANK_COPY_COMPLETE completes the copy at any copy position [log 3], and with no
copy running BANK_COPY_ADVANCE and BANK_COPY_COMPLETE change nothing [log 4]. -/
def Obligations.BankCopyRunsToCompletion : Prop :=
  (∀ (e : Envelope) (s : State), Accepts e s → FromOwner e s → s.engine.copy = .idle →
    exec (.bankCopy e []) s = .next { s with
      engine := { s.engine with copy := .running 0 e.port e.src e.seq }
      queues := s.queues.set e.port { s.queues.get e.port with held := true }
      cache := { manager := e.src, seq := e.seq, reply := none }
        :: (s.cache.filter (fun x => decide (x.manager ≠ e.src))).take 3
      agentStats := { s.agentStats with executed := satInc s.agentStats.executed } })
  ∧ (∀ (e : Envelope) (s : State), Accepts e s → FromOwner e s → s.engine.copy ≠ .idle →
    exec (.bankCopy e []) s = .next (answered e [0x13, 0x07] s))
  ∧ (∀ (s : State) (k : Fin 64) (p : Port) (manager seq : Byte), s.resetPin = false →
    s.engine.copy = .running k.val p manager seq → k.val < 63 →
    exec .bankCopyAdvance s = .next { s with
      engine := { s.engine.setBank s.engine.selector.other
          (s.engine.staging.set k { s.engine.active[k] with hits := 0 }) with
        copy := .running (k.val + 1) p manager seq } })
  ∧ (∀ (s : State) (p : Port) (manager seq : Byte), s.engine.copy = .running 63 p manager seq →
    exec .bankCopyAdvance s = exec .bankCopyComplete s)
  ∧ (∀ (s : State) (k : Nat) (p : Port) (manager seq : Byte), s.resetPin = false →
    s.engine.copy = .running k p manager seq →
    let reply : List Byte := [0x13, 0x00] ++ bytes16 (s.engine.stagingGen + 1)
    ∃ m, exec .bankCopyComplete s = .next { s with
        engine := m
        cache := s.cache.map (fun x =>
          if x.manager = manager ∧ x.seq = seq ∧ x.reply = none then { x with reply := some reply } else x)
        queues := if (s.queues.get p).held then s.queues.set p
            { entries := (s.queues.get p).entries
                ++ [{ body := .mreply manager s.ownAddr seq reply false, time := s.timestamp }], held := false }
          else s.queues }
      ∧ m.copy = .idle ∧ m.selector = s.engine.selector ∧ m.stagingGen = s.engine.stagingGen + 1
      ∧ m.incomplete = false ∧ m.active = s.engine.active
      ∧ ∀ i : Fin 64, m.staging[i] = { s.engine.active[i] with hits := 0 })
  ∧ ∀ s : State, s.engine.copy = .idle → exec .bankCopyAdvance s = .next s ∧ exec .bankCopyComplete s = .next s

/-- R57, R58, R59, R66, R72, R183: an owner's ENTRY-WRITE of a record whose fields fit together replaces the staging entry, hit
count 0, and the staging generation rises and is answered; the active bank stands. The checks come in R57's order: BUSY, BAD-VALUE,
BAD-ENTRY, each leaving the table as it was; BAD-VALUE is an index above 63, a ports byte above 2, a kinds byte with a bit among
3..7, an action byte above 5, a present src of 255 or a present slot above 31. Of the valid byte bit 0 counts, of the presence byte
bits 0..2, and the byte of an absent field does not. ENTRY-CLEAR clears one entry, or with FFH all 64 and the incomplete mark, the
generation rising once. Of an ENTRY-CLEAR with an index above 63 while a copy runs, BUSY before BAD-VALUE is the model's choice [log
43]. -/
def Obligations.EntryWriteAndClearChangeStaging : Prop :=
  ∀ (e : Envelope) (s : State), Accepts e s → FromOwner e s →
    let gen := s.engine.stagingGen + 1
    let table := fun (b : Bank) => { s.engine.setBank s.engine.selector.other b with stagingGen := gen }
    (∀ (i : Fin 64) (x : Entry), s.engine.copy = .idle → x.fits → (x.kData || x.kPoll || x.kAnswer) = true →
      exec (.entryWrite e (indexByte i :: entryBytes x)) s
        = .next (answered e ([0x11, 0x00] ++ bytes16 gen)
            { s with engine := table (s.engine.staging.set i { x with hits := 0 }) }))
    ∧ (∀ (b : Byte) (r : List Byte), s.engine.copy ≠ .idle → r.length = 12 →
      exec (.entryWrite e (b :: r)) s = .next (answered e [0x11, 0x07] s))
    ∧ (∀ b valid ports kinds present t1 t0 m1 m0 src dest action slot : Byte, s.engine.copy = .idle →
      let run := exec (.entryWrite e [b, valid, ports, kinds, present, t1, t0, m1, m0, src, dest, action, slot]) s
      let outOfRange := 64 ≤ b.toNat ∨ 3 ≤ ports.toNat ∨ 8 ≤ kinds.toNat ∨ 6 ≤ action.toNat
        ∨ present.getLsbD 0 = true ∧ src = 255 ∨ present.getLsbD 2 = true ∧ 32 ≤ slot.toNat
      (outOfRange → run = .next (answered e [0x11, 0x04] s))
      ∧ ∀ x : Entry, ¬outOfRange → x.valid = valid.getLsbD 0 → entryPortsByte x.ports = ports →
        x.kData = kinds.getLsbD 0 → x.kPoll = kinds.getLsbD 1 → x.kAnswer = kinds.getLsbD 2 →
        x.tag = half t1 t0 → x.mask = half m1 m0 → x.src = (if present.getLsbD 0 then some src else none) →
        x.dest = (if present.getLsbD 1 then some dest else none) → actionByte x.action = action →
        x.slot.map slotByte = (if present.getLsbD 2 then some slot else none) →
        run = exec (.entryWrite e (b :: entryBytes x)) s)
    ∧ (∀ (i : Fin 64) (x : Entry), s.engine.copy = .idle → x.src ≠ some 255 →
      ¬(x.fits ∧ (x.kData || x.kPoll || x.kAnswer) = true) →
      exec (.entryWrite e (indexByte i :: entryBytes x)) s = .next (answered e [0x11, 0x05] s))
    ∧ (∀ i : Fin 64, s.engine.copy = .idle →
      exec (.entryClear e [indexByte i]) s = .next (answered e ([0x12, 0x00] ++ bytes16 gen)
        { s with engine := table (s.engine.staging.set i Entry.cleared) }))
    ∧ (s.engine.copy = .idle →
      exec (.entryClear e [0xFF]) s = .next (answered e ([0x12, 0x00] ++ bytes16 gen)
        { s with engine := { table (Vector.replicate 64 Entry.cleared) with incomplete := false } }))
    ∧ (∀ b : Byte, s.engine.copy = .idle → 64 ≤ b.toNat → b ≠ 0xFF →
      exec (.entryClear e [b]) s = .next (answered e [0x12, 0x04] s))
    ∧ ∀ b : Byte, s.engine.copy ≠ .idle → exec (.entryClear e [b]) s = .next (answered e [0x12, 0x07] s)

/-- R74, R73: a BANK-SWAP that passes the checks makes the staging bank active and the active bank staging, each with its entries
and hit counts; the staging generation rises by 1; the DONE reply carries the new active-bank number and generation. The checks come
in R73's order: BUSY, INCOMPLETE, STALE (with the generation that stands), each leaving the table as it was. -/
def Obligations.BankSwapExchangesBanks : Prop :=
  ∀ (e : Envelope) (hi lo : Byte) (s : State), Accepts e s → FromOwner e s →
    (s.engine.copy = .idle → s.engine.incomplete = false → half hi lo = s.engine.stagingGen →
      ∃ m, exec (.bankSwap e [hi, lo]) s = .next (answered e
          ([0x14, 0x00, bankByte m.selector] ++ bytes16 (s.engine.stagingGen + 1)) { s with engine := m })
        ∧ m.selector = s.engine.selector.other ∧ m.stagingGen = s.engine.stagingGen + 1
        ∧ m.active = s.engine.staging ∧ m.staging = s.engine.active
        ∧ m.incomplete = s.engine.incomplete ∧ m.copy = s.engine.copy)
    ∧ (s.engine.copy ≠ .idle → exec (.bankSwap e [hi, lo]) s = .next (answered e [0x14, 0x07] s))
    ∧ (s.engine.copy = .idle → s.engine.incomplete = true →
      exec (.bankSwap e [hi, lo]) s = .next (answered e [0x14, 0x09] s))
    ∧ (s.engine.copy = .idle → s.engine.incomplete = false → half hi lo ≠ s.engine.stagingGen →
      exec (.bankSwap e [hi, lo]) s = .next (answered e ([0x14, 0x08] ++ bytes16 s.engine.stagingGen) s))

/-! ## The other requests -/

/-- R153, R156, R60, R88, R105, R129, R166, R184, R185, R186: IDENT, SETTINGS-READ, ENTRY-READ, SLOT-READ without hold and
STATS-READ without clear of any manager answer DONE with the bytes of their layouts and change nothing but what every reply changes.
A bank role, an index, a slot number or a group out of range is answered BAD-VALUE, a STAGING read during a copy BUSY; for a STAGING
read during a copy with the index out of range as well, BAD-VALUE is the model's choice [log 32]. -/
def Obligations.ReadsAnswerAndChangeNothing : Prop :=
  ∀ (e : Envelope) (s : State), Accepts e s →
    let m := s.engine
    let read := fun (k : BankId) (i : Fin 64) =>
      [0x10, 0x00, bankByte k] ++ entryBytes (m.bank k)[i] ++ bytes32 (m.bank k)[i].hits
      ++ [bankByte m.selector] ++ bytes16 m.stagingGen ++ [flagByte m.incomplete]
    let stats := fun (g : Byte) (bs : List Byte) =>
      exec (.statsReadWithoutClear e g) s = .next (answered e ([0x31, 0x00, g] ++ bs) s)
    exec (.ident e []) s = .next (answered e
      ([0x01, 0x00, 0x0A, 0x32, 0x01, s.rate.setWidth 8, s.ownAddr, relayStateByte s.relay, flagByte s.latch,
        portStateByte s.ports.a.state, portStateByte s.ports.b.state, ownerByte s.owner]
      ++ bytes16 (leaseOf s.owner)
      ++ [policyByte (policyInForce s.owner), flagByte m.copying, bankByte m.selector] ++ bytes16 m.stagingGen
      ++ [flagByte m.incomplete, flagByte s.restartPending]) s)
    ∧ exec (.settingsRead e []) s = .next (answered e
      ([0x04, 0x00, defaultByte s.settings.defaults.ab, defaultByte s.settings.defaults.ba, s.settings.bucketLimit.a,
        s.settings.bucketLimit.b, s.settings.holdTime, s.settings.repeatTime] ++ bytes16 s.settings.ageLimit) s)
    ∧ (∀ i : Fin 64, exec (.entryRead e [0, indexByte i]) s = .next (answered e (read m.selector i) s))
    ∧ (∀ i : Fin 64, m.copy = .idle →
      exec (.entryRead e [1, indexByte i]) s = .next (answered e (read m.selector.other i) s))
    ∧ (∀ i : Fin 64, m.copy ≠ .idle → exec (.entryRead e [1, indexByte i]) s = .next (answered e [0x10, 0x07] s))
    ∧ (∀ r b : Byte, 2 ≤ r.toNat ∨ 64 ≤ b.toNat → exec (.entryRead e [r, b]) s = .next (answered e [0x10, 0x04] s))
    ∧ (∀ n : Fin 32,
      let x := s.slots[n]
      let slot := fun (kind : Byte) (bs : List Byte) => exec (.slotReadWithoutHold e (slotByte n)) s
        = .next (answered e ([0x22, 0x00, slotByte n, kind, flagByte x.notify, x.gen] ++ bytes16 x.count ++ bs) s)
      let holds : Byte := BitVec.ofNat 8 s.holdList.length
      (x.body = .unused → slot 0 [])
      ∧ (x.body = .capture .empty → slot 1 [0, 0, 0, holds])
      ∧ (∀ c o, x.body = .capture (.full c o) → slot 1 ([1, flagByte o, 0, holds] ++ recordBytes c))
      ∧ (∀ c o q k, x.body = .capture (.held c o q k) →
        slot 1 ([2, flagByte o, flagByte q.isSome, holds] ++ recordBytes c))
      ∧ (∀ y, x.body = .answer y → slot 2 (bytes16 y.maxAge ++ [sourceByte y.content] ++ bytes16 y.age
        ++ [flagByte (decide (y.content ≠ .none ∧ (y.maxAge = 0 ∨ y.age < y.maxAge))),
            BitVec.ofNat 8 (answerBytes y.content).length] ++ answerBytes y.content))
      ∧ ∀ y, x.body = .beacon y → slot 3 (bytes16 y.tag ++ [y.dest, beaconPortsByte y.ports] ++ bytes16 y.interval
        ++ [flagByte y.timer.isSome, y.seq, BitVec.ofNat 8 y.payload.length] ++ y.payload))
    ∧ (∀ b : Byte, 32 ≤ b.toNat → exec (.slotReadWithoutHold e b) s = .next (answered e [0x22, 0x04] s))
    ∧ stats 0 (portCounterBytes s.portStats.a) ∧ stats 1 (portCounterBytes s.portStats.b)
    ∧ stats 2 (dirCounterBytes s.dirStats.ab s.paths.ab.highWater)
    ∧ stats 3 (dirCounterBytes s.dirStats.ba s.paths.ba.highWater)
    ∧ stats 4 (proxyCounterBytes s.proxyStats) ∧ stats 5 (agentCounterBytes s.agentStats)
    ∧ stats 6 ((s.slots.toList.take 16).map (fun x => bytes16 x.count)).flatten
    ∧ stats 7 ((s.slots.toList.drop 16).map (fun x => bytes16 x.count)).flatten
    ∧ ∀ g : Byte, 8 ≤ g.toNat → exec (.statsReadWithoutClear e g) s = .next (answered e [0x31, 0x04] s)

/-- R142, R31, R130, R146, R154: a CLAIM with a lease of 1..600, a known policy and a src other than 0 grants ownership when the
part has no owner or the claimant is the owner: the record holds the claimant, the lease, the policy and the arrival port; the latch
is cleared; the beacon timers restart if it was set; FALLBACK gives way to RELAY; the NOTICE condition is checked after the reply
[log 27]. Another owner answers OWNED with its address and lease; a value out of range BAD-VALUE. RENOUNCE of the owner does what a
lease expiry with policy KEEP does. -/
def Obligations.ClaimGrantsAndRenounceClears : Prop :=
  ∀ (e : Envelope) (s : State), Accepts e s →
    (∀ (hi lo pb : Byte) (k : Policy), policyOf pb = some k → 1 ≤ (half hi lo).toNat → (half hi lo).toNat ≤ 600 →
      e.src ≠ 0 →
      ((s.owner = none ∨ FromOwner e s) →
        exec (.claim e [hi, lo, pb]) s = .next (offerNotice (answered e [0x02, 0x00, e.src, hi, lo, pb] { s with
          owner := some { addr := e.src, lease := (half hi lo).toNat, policy := k, port := e.port }
          latch := false
          relay := if s.relay = .fallback then .relay else s.relay
          slots := if s.latch then mapVec startBeacon s.slots
                   else if s.relay = .fallback then mapVec startStoppedBeacon s.slots else s.slots })))
      ∧ ∀ o, s.owner = some o → o.addr ≠ e.src → exec (.claim e [hi, lo, pb]) s
          = .next (answered e ([0x02, 0x02, o.addr] ++ bytes16 (BitVec.ofNat 16 o.lease)) s))
    ∧ (∀ hi lo pb : Byte, (2 ≤ pb.toNat ∨ half hi lo = 0 ∨ 600 < (half hi lo).toNat ∨ e.src = 0) →
      exec (.claim e [hi, lo, pb]) s = .next (answered e [0x02, 0x04] s))
    ∧ ∀ o, s.owner = some o → o.addr = e.src →
      ∃ u, exec .leaseExpiry { s with owner := some { o with policy := .keep } } = .next u
        ∧ exec (.renounce e []) s = .next (answered e [0x03, 0x00] u)

/-- R157, R155, R184, R21: a SETTINGS-WRITE of the owner whose fields all lie in range replaces the whole record and answers it;
where a SYNCED port's bucket stands at or above its new limit the port enters FAULT in the same event, after the reply. A record
with a field out of range replaces nothing and is answered BAD-VALUE with one bit for each such field. -/
def Obligations.SettingsWriteReplacesRecord : Prop :=
  ∀ (e : Envelope) (s : State), Accepts e s → FromOwner e s →
    (∀ (ab ba : DefaultAction) (la lb h r : Byte) (age : Half), 4 ≤ la.toNat → 4 ≤ lb.toNat → h ≠ 0 → r ≠ 0 → age ≠ 0 →
      let x : Settings := { defaults := ⟨ab, ba⟩, bucketLimit := ⟨la, lb⟩, holdTime := h, repeatTime := r, ageLimit := age }
      let record := [defaultByte ab, defaultByte ba, la, lb, h, r] ++ bytes16 age
      let full := fun (p : Port) => (s.ports.get p).state = .synced ∧ (x.bucketLimit.get p).toNat ≤ (s.ports.get p).bucket
      ((∀ p, ¬full p) →
        exec (.settingsWrite e record) s = .next (answered e ([0x05, 0x00] ++ record) { s with settings := x }))
      ∧ (s.restartPending = false → ∃ t, exec (.settingsWrite e record) s = .next t ∧ t.settings = x
          ∧ (∀ p, full p → t.ports.get p = { state := .fault, syncIdle := 0, bucket := 0, coolDown := some 51 })
          ∧ (∀ p, ¬full p → t.ports.get p = s.ports.get p)
          ∧ ((∃ p, full p) → t.relay = .bypass)))
    ∧ ∀ d0 d1 la lb h r a1 a0 : Byte,
      (2 ≤ d0.toNat ∨ 2 ≤ d1.toNat ∨ la.toNat < 4 ∨ lb.toNat < 4 ∨ h = 0 ∨ r = 0 ∨ half a1 a0 = 0) →
      ∃ bits : Byte, exec (.settingsWrite e [d0, d1, la, lb, h, r, a1, a0]) s = .next (answered e [0x05, 0x04, bits] s)
        ∧ (bits.getLsbD 0 ↔ 2 ≤ d0.toNat) ∧ (bits.getLsbD 1 ↔ 2 ≤ d1.toNat) ∧ (bits.getLsbD 2 ↔ la.toNat < 4)
        ∧ (bits.getLsbD 3 ↔ lb.toNat < 4) ∧ (bits.getLsbD 4 ↔ h = 0) ∧ (bits.getLsbD 5 ↔ r = 0)
        ∧ (bits.getLsbD 6 ↔ half a1 a0 = 0) ∧ bits.getLsbD 7 = false

/-- R81, R82, R83, R102, R103, R128, R129, R130, R161, R124: SLOT-SETUP of the owner gives the slot its kind with empty content, the
notify flag and count 0, raises its setup generation, takes it off the hold list and withdraws every queue entry that names it,
counted; a beacon timer starts unless the fallback latch is set. SLOT-LOAD gives an ANSWER or BEACON slot its payload and changes
nothing else but an answer's age, to 0. A value out of range is answered BAD-VALUE, a load of another kind WRONG-KIND. -/
def Obligations.SlotSetupAndLoadFillSlots : Prop :=
  ∀ (e : Envelope) (n : Fin 32) (s : State), Accepts e s → FromOwner e s →
    let x := s.slots[n]
    let named := fun (z : QEntry) => decide (z.body.slotField = some n)
    let setUp := fun (notify : Bool) (kind : Byte) (body : SlotBody) =>
      answered e [0x20, 0x00, slotByte n, kind, x.gen + 1] { s with
        slots := s.slots.set n { notify := notify, gen := x.gen + 1, count := 0, body := body }
        holdList := s.holdList.filter (fun m => decide (m ≠ n))
        queues := ⟨{ s.queues.a with entries := s.queues.a.entries.filter (fun z => !named z) },
                   { s.queues.b with entries := s.queues.b.entries.filter (fun z => !named z) }⟩
        dirStats :=
          ⟨{ s.dirStats.ab with withdrawn := satAdd s.dirStats.ab.withdrawn (s.queues.b.entries.filter named).length },
           { s.dirStats.ba with withdrawn := satAdd s.dirStats.ba.withdrawn (s.queues.a.entries.filter named).length }⟩ }
    (∀ f : Bool, exec (.slotSetup e [slotByte n, 0, flagByte f]) s = .next (setUp f 0 .unused))
    ∧ (∀ f : Bool, exec (.slotSetup e [slotByte n, 1, flagByte f]) s = .next (setUp f 1 (.capture .empty)))
    ∧ (∀ (f : Bool) (age : Half), exec (.slotSetup e ([slotByte n, 2, flagByte f] ++ bytes16 age)) s
        = .next (setUp f 2 (.answer { maxAge := age, content := .none, age := 0 })))
    ∧ (∀ (f : Bool) (tag interval : Half) (ports : BeaconPorts) (dest : Option Byte), interval ≠ 0 →
        exec (.slotSetup e ([slotByte n, 3, flagByte f] ++ bytes16 tag ++ [beaconPortsByte ports] ++ bytes16 interval
            ++ dest.toList)) s
          = .next (setUp f 3 (.beacon
              { tag := tag, dest := dest.getD 255, ports := ports, interval := interval, payload := [], seq := 0,
                timer := if s.latch then none else some interval.toNat })))
    ∧ (∀ b f : Byte, 32 ≤ b.toNat ∨ 2 ≤ f.toNat → exec (.slotSetup e [b, 1, f]) s = .next (answered e [0x20, 0x04] s))
    ∧ (∀ (kind f : Byte) (ps : List Byte), 4 ≤ kind.toNat →
        exec (.slotSetup e (slotByte n :: kind :: f :: ps)) s = .next (answered e [0x20, 0x04] s))
    ∧ (∀ (f t1 t0 q i1 i0 : Byte), 3 ≤ q.toNat ∨ half i1 i0 = 0 →
        exec (.slotSetup e [slotByte n, 3, f, t1, t0, q, i1, i0]) s = .next (answered e [0x20, 0x04] s))
    ∧ ∀ bs : List Byte,
      (∀ y, x.body = .answer y → bs.length ≤ 32 → exec (.slotLoad e (slotByte n :: bs)) s
        = .next (answered e [0x21, 0x00, slotByte n, 0x01, x.gen]
            { s with slots := s.slots.set n { x with body := .answer { y with content := .loaded bs, age := 0 } } }))
      ∧ (∀ y, x.body = .beacon y → bs.length ≤ 32 → exec (.slotLoad e (slotByte n :: bs)) s
        = .next (answered e [0x21, 0x00, slotByte n, x.gen]
            { s with slots := s.slots.set n { x with body := .beacon { y with payload := bs } } }))
      ∧ ((∀ y, x.body ≠ .answer y) → (∀ y, x.body ≠ .beacon y) → bs.length ≤ 32 → exec (.slotLoad e (slotByte n :: bs)) s
        = .next (answered e [0x21, 0x06, slotByte n, kindByte x.body] s))
      ∧ (32 < bs.length → bs.length ≤ 58 → exec (.slotLoad e (slotByte n :: bs)) s = .next (answered e [0x21, 0x04] s))
      ∧ ∀ b : Byte, 32 ≤ b.toNat → bs.length ≤ 58 → exec (.slotLoad e (b :: bs)) s = .next (answered e [0x21, 0x04] s)

/-- R89, R90, R91, R92, R185: SLOT-READ with hold of the owner. A FULL slot becomes HELD, goes to the end of the hold list, and its
lapse timer starts with the hold time; with 4 slots held the read is refused HOLDS-FULL with their numbers and the slot stays FULL.
A HELD slot restarts its timer. An EMPTY slot is answered as it stands. Other kinds are answered WRONG-KIND. -/
def Obligations.HoldReadPlacesOrRestartsHold : Prop :=
  ∀ (e : Envelope) (n : Fin 32) (s : State), Accepts e s → FromOwner e s →
    let x := s.slots[n]
    let ticks := s.settings.holdTime.toNat
    let run := exec (.slotReadWithHold e (slotByte n)) s
    let head := [0x22, 0x00, slotByte n, 1, flagByte x.notify, x.gen] ++ bytes16 x.count
    (∀ c o, x.body = .capture (.full c o) → s.holdList.length < 4 → run = .next (answered e
      (head ++ [2, flagByte o, 0, BitVec.ofNat 8 (s.holdList.length + 1)] ++ recordBytes c)
      { s with
        slots := s.slots.set n { x with body := .capture (.held c o none ticks) }
        holdList := s.holdList ++ [n] }))
    ∧ (∀ c o, x.body = .capture (.full c o) → 4 ≤ s.holdList.length →
      run = .next (answered e ([0x22, 0x0A] ++ s.holdList.map slotByte) s))
    ∧ (∀ c o q k, x.body = .capture (.held c o q k) → run = .next (answered e
      (head ++ [2, flagByte o, flagByte q.isSome, BitVec.ofNat 8 s.holdList.length] ++ recordBytes c)
      { s with slots := s.slots.set n { x with body := .capture (.held c o q ticks) } }))
    ∧ (x.body = .capture .empty →
      run = .next (answered e (head ++ [0, 0, 0, BitVec.ofNat 8 s.holdList.length]) s))
    ∧ ((∀ c, x.body ≠ .capture c) → run = .next (answered e [0x22, 0x06, slotByte n, kindByte x.body] s))
    ∧ ∀ b : Byte, 32 ≤ b.toNat → exec (.slotReadWithHold e b) s = .next (answered e [0x22, 0x04] s)

/-- R93: SLOT-RELEASE, an owner-only request, its checks in order: BAD-VALUE, WRONG-KIND, NOT-HELD with the capture state. For a
HELD slot the held content is discarded, a pending record becomes the content of a FULL slot, else the slot is EMPTY, the overrun
flag is cleared, the slot leaves the hold list with its timer, and DONE carries the new capture state and the slot count, which
stands as the pending set does. -/
def Obligations.ReleaseConsumesHeldRecord : Prop :=
  ∀ (e : Envelope) (n : Fin 32) (s : State), Accepts e s →
    let x := s.slots[n]
    let run := exec (.slotRelease e [slotByte n]) s
    let released := fun (c : CaptureSlot) => { s with
      slots := s.slots.set n { x with body := .capture c }
      holdList := s.holdList.filter (fun m => decide (m ≠ n)) }
    (s.owner = none → ∀ b, exec (.slotRelease e [b]) s = .next (answered e [0x23, 0x01] s))
    ∧ (∀ o, s.owner = some o → o.addr ≠ e.src → ∀ b, exec (.slotRelease e [b]) s
        = .next (answered e ([0x23, 0x02, o.addr] ++ bytes16 (BitVec.ofNat 16 o.lease)) s))
    ∧ (FromOwner e s →
      (∀ b : Byte, 32 ≤ b.toNat → exec (.slotRelease e [b]) s = .next (answered e [0x23, 0x04] s))
      ∧ ((∀ c, x.body ≠ .capture c) → run = .next (answered e [0x23, 0x06, slotByte n, kindByte x.body] s))
      ∧ (x.body = .capture .empty → run = .next (answered e [0x23, 0x0B, slotByte n, 0] s))
      ∧ (∀ c o, x.body = .capture (.full c o) → run = .next (answered e [0x23, 0x0B, slotByte n, 1] s))
      ∧ (∀ c o k, x.body = .capture (.held c o none k) →
        run = .next (answered e ([0x23, 0x00, slotByte n, 0] ++ bytes16 x.count) (released .empty)))
      ∧ ∀ c o r k, x.body = .capture (.held c o (some r) k) →
        run = .next (answered e ([0x23, 0x00, slotByte n, 1] ++ bytes16 x.count) (released (.full r false))))

/-- R164, R172, R166, R177: NOTICE-ACK of the owner removes each named event whose addition mark is clear and keeps the others, and
answers the pending set that is left; a set with a bit among 34..39 is BAD-VALUE. STATS-READ with clear answers the group and then
sets its counters, the high-water mark of a DIR group and the slot counts of a SLOTS group to 0; the read itself is counted after
the clear. -/
def Obligations.AckAndClearRemove : Prop :=
  ∀ (e : Envelope) (s : State), Accepts e s → FromOwner e s →
    (∀ b0 b1 b2 b3 b4 : Byte, b0.toNat < 4 →
      ∃ left : BitVec 34, exec (.noticeAck e [b0, b1, b2, b3, b4]) s
          = .next (answered e ([0x30, 0x00] ++ eventBytes left) { s with notice := { s.notice with pending := left } })
        ∧ ∀ k, k < 34 → (left.getLsbD k = true ↔ s.notice.pending.getLsbD k = true
            ∧ ¬((b0 ++ b1 ++ b2 ++ b3 ++ b4).getLsbD k = true ∧ s.notice.marks.getLsbD k = false)))
    ∧ (∀ b0 b1 b2 b3 b4 : Byte, 4 ≤ b0.toNat →
      exec (.noticeAck e [b0, b1, b2, b3, b4]) s = .next (answered e [0x30, 0x04] s))
    ∧ exec (.statsReadWithClear e 0) s = .next (answered e ([0x31, 0x00, 0] ++ portCounterBytes s.portStats.a)
        { s with portStats := { s.portStats with a := .zero } })
    ∧ exec (.statsReadWithClear e 1) s = .next (answered e ([0x31, 0x00, 1] ++ portCounterBytes s.portStats.b)
        { s with portStats := { s.portStats with b := .zero } })
    ∧ exec (.statsReadWithClear e 2) s = .next (answered e
        ([0x31, 0x00, 2] ++ dirCounterBytes s.dirStats.ab s.paths.ab.highWater)
        { s with dirStats := { s.dirStats with ab := .zero }
                 paths := { s.paths with ab := { s.paths.ab with highWater := 0 } } })
    ∧ exec (.statsReadWithClear e 3) s = .next (answered e
        ([0x31, 0x00, 3] ++ dirCounterBytes s.dirStats.ba s.paths.ba.highWater)
        { s with dirStats := { s.dirStats with ba := .zero }
                 paths := { s.paths with ba := { s.paths.ba with highWater := 0 } } })
    ∧ exec (.statsReadWithClear e 4) s = .next (answered e ([0x31, 0x00, 4] ++ proxyCounterBytes s.proxyStats)
        { s with proxyStats := .zero })
    ∧ exec (.statsReadWithClear e 5) s = .next (answered e ([0x31, 0x00, 5] ++ agentCounterBytes s.agentStats)
        { s with agentStats := .zero })
    ∧ (∀ g : Byte, (g = 6 ∨ g = 7) →
      ∃ v : Vector Slot 32, exec (.statsReadWithClear e g) s = .next (answered e
          ([0x31, 0x00, g] ++ (((s.slots.toList.drop (if g = 6 then 0 else 16)).take 16).map
            (fun x => bytes16 x.count)).flatten) { s with slots := v })
        ∧ ∀ n : Fin 32, v[n] = if (n.val < 16 ↔ g = 6) then { s.slots[n] with count := 0 } else s.slots[n])
    ∧ ∀ g : Byte, 8 ≤ g.toNat → exec (.statsReadWithClear e g) s = .next (answered e [0x31, 0x04] s)

/-- R168, R169, R170: a RESTART of the owner sets the restart-pending mark, which names its reply, the first one only. The restart
begins with the end symbol of that reply, EOF or the closing ABORT; with its withdrawal by age-out, by QUEUE_AGE_OUT [log 3] or at
the 1 ms tick (R123); and on an entry to BYPASS that empties the queues, cuts the reply off on the port that left SYNCED, or
discards it before its SOF (R28), the port change's own event being emptied with the pending set [log 34]; where the entry to BYPASS
leaves the reply to its closing ABORT, the restart waits for that. RESTART_BEGIN with the mark set leaves each block at the values
R170 lists: the ports by their detectors, BYPASS with every store, queue, hold, cache entry, counter and event gone and no owner, a
frame being sent left to its ABORT and the BYPASS output asserted after it, from JOINING at once (R32) [log 20], every hit count 0,
a running copy recorded as abandoned, the SOF timestamp registers 0 (the model's choice [log 8]); and the table's contents, the
configuration of the slots, the settings, the own address, the latch and the time base stand. With the mark clear the command
changes nothing [log 3]. -/
def Obligations.RestartWaitsThenClears : Prop :=
  (∀ (e : Envelope) (s : State), Accepts e s → FromOwner e s → s.restartPending = false →
    exec (.restart e []) s = .next { answered e [0x3F, 0x00] s with
      restartPending := true
      queues := s.queues.set e.port { s.queues.get e.port with entries := (s.queues.get e.port).entries
        ++ [{ body := .mreply e.src s.ownAddr e.seq [0x3F, 0x00] true, time := s.timestamp }] } })
  ∧ (∀ (e : Envelope) (s : State), Accepts e s → FromOwner e s → s.restartPending = true →
    exec (.restart e []) s = .next (answered e [0x3F, 0x00] s))
  ∧ (∀ (p : Port) (s : State), s.resetPin = false → s.restartPending = true → (s.relay = .relay ∨ s.relay = .fallback) →
    (s.paths.get (dirOut p)).tx = .injection true [] true → (s.paths.get (dirIn p)).tx.isNamed = false →
    (∀ q, ∀ x ∈ (s.queues.get q).entries, x.body.isNamed = false) →
    exec (.transmitSymbol p) s = exec .restartBegin { s with
      paths := s.paths.set (dirOut p) { s.paths.get (dirOut p) with tx := .between 0, line := some .eof } })
  ∧ (∀ (p : Port) (s : State), s.resetPin = false → s.restartPending = true → s.relay = .bypass →
    (s.paths.get (dirOut p)).tx = .closing true → (s.paths.get (dirIn p)).tx.isNamed = false →
    (∀ q, ∀ x ∈ (s.queues.get q).entries, x.body.isNamed = false) →
    exec (.transmitSymbol p) s = exec .restartBegin { s with
      paths := s.paths.set (dirOut p) { s.paths.get (dirOut p) with tx := .between 2, line := some .abort }
      bypassPin := s.bypassPin || !(s.paths.get (dirIn p)).tx.isClosing })
  ∧ (∀ s : State, s.resetPin = false → s.restartPending = true → (∀ d, (s.paths.get d).tx.isNamed = false) →
    let old := fun (x : QEntry) => s.settings.ageLimit.toNat * 1000 < (s.timestamp - x.time).toNat
    (∀ p, (∀ x ∈ (s.queues.get p).entries, x.body.isNamed = true → old x) →
      (∀ x ∈ (s.queues.get (otherPort p)).entries, x.body.isNamed = false) →
      exec (.queueAgeOut p) s = exec .restartBegin s)
    ∧ (s.due.one = true → (∀ p, ∀ x ∈ (s.queues.get p).entries, x.body.isNamed = true → old x) →
      ∃ t, exec .tick1ms s = .next t ∧ t.relay = .bypass ∧ t.restartPending = false ∧ t.owner = none ∧ t.cache = []
        ∧ t.notice = .reset ∧ t.dirStats = ⟨.zero, .zero⟩ ∧ (∀ p, t.queues.get p = { entries := [], held := false })))
  ∧ (∀ (p : Port) (c : Instr) (s : State), s.resetPin = false → s.restartPending = true → s.relay ≠ .bypass →
    (∀ q, (s.ports.get q).state = .synced) → (∀ d m, (s.paths.get d).tx ≠ .closing m) →
    (c = .lossOfSignal p ∨ c = .codeError p ∧ (s.rx.get p).delim = .gap
      ∧ (s.settings.bucketLimit.get p).toNat ≤ (s.ports.get p).bucket + 1) →
    ∃ t, exec c s = .next t ∧ t.relay = .bypass ∧ t.bypassPin = (s.bypassPin || decide (s.relay = .joining))
      ∧ t.signal = (if c = .lossOfSignal p then s.signal.set p false else s.signal)
      ∧ (∀ q, t.queues.get q = { entries := [], held := false }) ∧ (t.paths.get (dirOut p)).tx = .between 2
      ∧ ((∀ bs, (s.paths.get (dirIn p)).tx ≠ .injection true bs true) →
        t.restartPending = false ∧ t.owner = none ∧ t.cache = [] ∧ t.holdList = [] ∧ t.notice = .reset
        ∧ t.portStats = ⟨.zero, .zero⟩ ∧ t.dirStats = ⟨.zero, .zero⟩
        ∧ ∀ q, t.ports.get q
            = { state := if t.signal.get q then .syncing else .down, syncIdle := 0, bucket := 0, coolDown := none })
      ∧ (∀ bs, (s.paths.get (dirIn p)).tx = .injection true bs true →
        t.restartPending = true ∧ t.owner = s.owner ∧ t.cache = s.cache ∧ (t.paths.get (dirIn p)).tx = .closing true
        ∧ t.notice = (noted (portBit p) s).notice))
  ∧ (∀ s : State, s.resetPin = false → s.restartPending = true →
    ∃ t, exec .restartBegin s = .next t ∧ t.relay = .bypass ∧ t.settle = none ∧ t.owner = none ∧ t.cache = []
      ∧ t.bypassPin = (s.bypassPin || decide (s.relay = .joining))
      ∧ t.holdList = [] ∧ t.restartPending = false ∧ t.notice = .reset ∧ t.portStats = ⟨.zero, .zero⟩
      ∧ t.dirStats = ⟨.zero, .zero⟩ ∧ t.proxyStats = .zero ∧ t.agentStats = .zero
      ∧ (∀ p, t.ports.get p = { state := if s.signal.get p then .syncing else .down, syncIdle := 0, bucket := 0,
                                coolDown := none })
      ∧ (∀ p, t.rx.get p = .reset) ∧ (∀ p, t.queues.get p = { entries := [], held := false }) ∧ (∀ p, t.inbox.get p = none)
      ∧ (∀ d, (t.paths.get d).store = [] ∧ (t.paths.get d).flight = none ∧ (t.paths.get d).highWater = 0)
      ∧ (∀ d sent bytes m, ((s.paths.get d).tx = .through sent ∨ (s.paths.get d).tx = .injection sent bytes m) →
          (t.paths.get d).tx = if sent then .closing false else .between 2)
      ∧ (∀ (k : BankId) (i : Fin 64), (t.engine.bank k)[i] = { (s.engine.bank k)[i] with hits := 0 })
      ∧ t.engine.selector = s.engine.selector ∧ t.engine.copy = .idle
      ∧ (s.engine.copy = .idle →
          t.engine.stagingGen = s.engine.stagingGen ∧ t.engine.incomplete = s.engine.incomplete)
      ∧ (s.engine.copy ≠ .idle → t.engine.stagingGen = s.engine.stagingGen + 1 ∧ t.engine.incomplete = true)
      ∧ (∀ n : Fin 32, t.slots[n].notify = s.slots[n].notify ∧ t.slots[n].gen = s.slots[n].gen ∧ t.slots[n].count = 0
          ∧ (s.slots[n].body = .unused → t.slots[n].body = .unused)
          ∧ (∀ c, s.slots[n].body = .capture c → t.slots[n].body = .capture .empty)
          ∧ (∀ y bs, s.slots[n].body = .answer y → y.content = .loaded bs →
              t.slots[n].body = .answer { y with age := 0 })
          ∧ (∀ y, s.slots[n].body = .answer y → (∀ bs, y.content ≠ .loaded bs) →
              t.slots[n].body = .answer { y with content := .none, age := 0 })
          ∧ (∀ y, s.slots[n].body = .beacon y → t.slots[n].body = .beacon { y with timer := none }))
      ∧ t.settings = s.settings ∧ t.ownAddr = s.ownAddr ∧ t.latch = s.latch ∧ t.timestamp = s.timestamp
      ∧ t.divider = s.divider ∧ t.due = s.due ∧ t.rate = s.rate ∧ t.signal = s.signal)
  ∧ ∀ s : State, s.restartPending = false → exec .restartBegin s = .next s

/-- R134, R135, R137, R138, R139, R140, R147, R148, R152, R179: what a request meets before its own effect. It is stated on the row
UNKNOWN_REQUEST for every code: that this row with a known code is that code's request is the model's choice [log 5], the manual's
unknown request (R152) having none of the seventeen codes. A copy of a broadcast other than IDENT is ignored; BYPASS and JOINING
discard; src 255 is dropped; a duplicate is not executed and its reply is offered again; without reply room nothing is done; an
unknown code and a wrong length (of a SLOT-SETUP, one that does not fit its kind) are BAD-REQUEST, an unknown selection byte
BAD-VALUE; an owner-only request of another manager is NO-OWNER or OWNED. A broadcast IDENT is answered without a cache entry. That
a duplicate's entry moves to the front of the cache (R147, R148), where R137 has it not refreshed, is the model's choice [log 39].
That a SLOT-READ or STATS-READ of a wrong length is BAD-REQUEST where its selection byte is undefined as well is the model's choice
[log 44]. -/
def Obligations.RequestsPassTheGateInOrder : Prop :=
  ∀ (e : Envelope) (code : Byte) (ps : List Byte) (s : State), s.resetPin = false → restartDue s = false →
    let run := exec (.unknownRequest e code ps) s
    let relays := s.relay = .relay ∨ s.relay = .fallback
    let room := (s.queues.get e.port).occupancy < 16
    let counted := fun (f : AgentCounters → AgentCounters) => { s with agentStats := f s.agentStats }
    let cached := s.cache.find? (fun x => decide (x.manager = e.src) && decide (x.seq = e.seq))
    let refused := (s.owner = none → run = .next (answered e [code, 0x01] s))
      ∧ ∀ o, s.owner = some o → o.addr ≠ e.src →
        run = .next (answered e ([code, 0x02, o.addr] ++ bytes16 (BitVec.ofNat 16 o.lease)) s)
    (e.copy = true → code ≠ 0x01 → run = .next s)
    ∧ ((e.copy = false ∨ code = 0x01) →
      (¬relays → run = .next (counted fun c => { c with discardedBypass := satInc c.discardedBypass }))
      ∧ (relays → e.src = 255 → run = .next (counted fun c => { c with droppedBadSrc := satInc c.droppedBadSrc }))
      ∧ (relays → e.src ≠ 255 → (e.copy = true ∨ cached = none) → ¬room →
        run = .next (counted fun c => { c with droppedNoRoom := satInc c.droppedNoRoom })))
    ∧ (e.copy = true → code = 0x01 → ps = [] → relays → e.src ≠ 255 → room →
      run = .next { answered e ([0x01, 0x00] ++ identResults s) s with cache := s.cache })
    ∧ (∀ x, e.copy = false → relays → e.src ≠ 255 → cached = some x →
      let again := { s with
        cache := x :: s.cache.filter (fun y => decide (y.manager ≠ x.manager))
        agentStats := { s.agentStats with duplicates := satInc s.agentStats.duplicates } }
      (x.reply = none → run = .next again)
      ∧ (∀ payload, x.reply = some payload → room →
        run = .next (enqueued e.port (.mreply e.src s.ownAddr e.seq payload false) again))
      ∧ (∀ payload, x.reply = some payload → ¬room →
        run = .next { again with agentStats :=
          { again.agentStats with droppedNoRoom := satInc again.agentStats.droppedNoRoom } }))
    ∧ (Accepts e s →
      (code ∉ [0x01, 0x02, 0x03, 0x04, 0x05, 0x10, 0x11, 0x12, 0x13, 0x14, 0x20, 0x21, 0x22, 0x23, 0x30, 0x31, 0x3F] →
        run = .next (answered e [code, 0x03] s))
      ∧ (∀ n, (code, n) ∈ ([(0x01, 0), (0x02, 3), (0x03, 0), (0x04, 0), (0x05, 8), (0x10, 2), (0x11, 13), (0x12, 1),
            (0x13, 0), (0x14, 2), (0x22, 2), (0x23, 1), (0x30, 5), (0x31, 2), (0x3F, 0)] : List (Byte × Nat)) →
          (ps.length ≠ n → run = .next (answered e [code, 0x03] s))
          ∧ (ps.length = n → code ∈ [0x03, 0x05, 0x11, 0x12, 0x13, 0x14, 0x23, 0x30, 0x3F] → refused))
      ∧ (code = 0x20 → (ps.length < 3 → run = .next (answered e [code, 0x03] s))
        ∧ ∀ n k f rest, ps = n :: k :: f :: rest → ((k = 0 ∨ k = 1) ∧ rest = [] ∨ k = 2 ∧ rest.length = 2
          ∨ k = 3 ∧ (rest.length = 5 ∨ rest.length = 6) ∨ 4 ≤ k.toNat) → refused)
      ∧ (code = 0x20 → ∀ n k f rest, ps = n :: k :: f :: rest → ((k = 0 ∨ k = 1) ∧ rest ≠ [] ∨ k = 2 ∧ rest.length ≠ 2
          ∨ k = 3 ∧ rest.length ≠ 5 ∧ rest.length ≠ 6) → run = .next (answered e [code, 0x03] s))
      ∧ (code = 0x21 → (ps = [] ∨ 59 < ps.length → run = .next (answered e [code, 0x03] s))
        ∧ (1 ≤ ps.length → ps.length ≤ 59 → refused))
      ∧ ((code = 0x22 ∨ code = 0x31) → ∀ x y : Byte, ps = [x, y] →
        (y = 1 → refused) ∧ (2 ≤ y.toNat → run = .next (answered e [code, 0x04] s))))

/-- R149, R150, R120, R139: ASSIGN in RELAY or FALLBACK: a payload byte of 1..254 becomes the own address and the byte plus 1 goes
on from the other port; 0 and 255 leave the own address and go on as they are. A queued ASSIGN entry takes the new byte and keeps
its place; without room it is counted dropped-no-room. In BYPASS and JOINING the frame is discarded and counted. That the row ASSIGN
stands for the GOOD end of the frame is the model's choice [log 6]. -/
def Obligations.AssignSetsAddressAndGoesOn : Prop :=
  ∀ (p : Port) (n : Byte) (s : State), s.resetPin = false →
    let q := s.queues.get (otherPort p)
    let onward : Byte := if n = 0 ∨ n = 255 then n else n + 1
    let u : State := { s with ownAddr := if n = 0 ∨ n = 255 then s.ownAddr else n }
    ((s.relay = .relay ∨ s.relay = .fallback) →
      ((∀ x ∈ q.entries, ∀ b, x.body ≠ .assign b) → q.occupancy < 16 →
        exec (.assign p n) s = .next (enqueued (otherPort p) (.assign onward) u))
      ∧ ((∀ x ∈ q.entries, ∀ b, x.body ≠ .assign b) → 16 ≤ q.occupancy → exec (.assign p n) s
        = .next { u with agentStats := { s.agentStats with droppedNoRoom := satInc s.agentStats.droppedNoRoom } })
      ∧ ∀ pre post b time, q.entries = pre ++ { body := .assign b, time := time } :: post →
        (∀ x ∈ pre ++ post, ∀ c, x.body ≠ .assign c) → exec (.assign p n) s = .next { u with
          queues := s.queues.set (otherPort p)
            { q with entries := pre ++ { body := .assign onward, time := time } :: post } })
    ∧ ((s.relay = .bypass ∨ s.relay = .joining) → exec (.assign p n) s = .next { s with
        agentStats := { s.agentStats with discardedBypass := satInc s.agentStats.discardedBypass } })

/-- R181, R184, R183: the records of the line read back: the bytes of a header, of a settings record and of an entry record stand
for that header, that record and that entry (whose hit count a record does not carry). -/
def Obligations.RecordsReadBack : Prop :=
  (∀ h : Header, headerOf (headerBytes h) = h) ∧ (∀ x : Settings, settingsOf (settingsBytes x) = x)
  ∧ ∀ x : Entry, entryOfRecord (entryBytes x) = { x with hits := 0 }

/-! ## Invariants -/

/-- R118, R120, R121: every step keeps the bounds of the injection queues: at most 16 places in each, at most one entry for each
slot and one ASSIGN, and one NOTICE in the two together. -/
def Obligations.StepKeepsQueuesOk : Prop := ∀ s t : State, QueuesOk s → step s = .next t → QueuesOk t

/-- R147, R141, R142, R143, R150 and R84, R91, R95: every step keeps the reply cache at no more than 4 entries of distinct managers,
an owner at an address of 1..254 with a remaining lease of 1..600, the own address off 255; and the hold list at no more than 4
slots, exactly those in state HELD, empty without an owner. -/
def Obligations.StepKeepsSessionsAndHolds : Prop :=
  (∀ s t : State, AgentOk s → step s = .next t → AgentOk t) ∧ ∀ s t : State, HoldsOk s → step s = .next t → HoldsOk t

/-- R22, R24 to R32, R130: every step keeps how the line's blocks stand to one another: outside BYPASS both ports are SYNCED and the
BYPASS output is released; the settle timer runs exactly in JOINING and a cool-down exactly in FAULT; the fallback latch is set only
without an owner and never in RELAY, and always in FALLBACK; in BYPASS and JOINING queues, stores and records are empty; beacon
timers stop under the latch and run in RELAY. -/
def Obligations.StepKeepsLineOk : Prop := ∀ s t : State, LineOk s → step s = .next t → LineOk t

/-- R56, R57, R155, R20, R47, R34, R169: every step keeps every table entry's fields fitting together, a waiting restart's reply in
its queue or at its output, and, with the line's invariant, the settings in their ranges, each bucket below its limit, each
high-water mark at most 96, the divider below 100 ms and a tick due only where the divider brings it. That the high-water mark stops
at 96 where a stream breaks the line's rates is the model's [log 14]. -/
def Obligations.StepKeepsTableAndRanges : Prop :=
  (∀ s t : State, TableOk s → step s = .next t → TableOk t)
  ∧ (∀ s t : State, RestartWaits s → step s = .next t → RestartWaits t)
  ∧ ∀ s t : State, LineOk s → RangesOk s → step s = .next t → RangesOk t

/-- R140, R146: without an owner, and with no copy running, no command but RESET_ASSERT changes what only an owner may change: the
settings, the active-bank selector, the staging generation and mark, the contents of an entry, the kind, notify flag and setup
generation of a slot, the max-age of an ANSWER slot, and the tag, dest, ports, interval and payload of a BEACON slot. (The payload
of an ANSWER slot is also learned from the line, R104.) -/
def Obligations.NothingIsReconfiguredWithoutOwner : Prop :=
  ∀ (c : Instr) (s t : State), c ≠ .resetAssert → s.owner = none → s.engine.copy = .idle → exec c s = .next t →
    t.settings = s.settings ∧ t.engine.selector = s.engine.selector ∧ t.engine.stagingGen = s.engine.stagingGen
    ∧ t.engine.incomplete = s.engine.incomplete
    ∧ (∀ (k : BankId) (i : Fin 64), (t.engine.bank k)[i].contents = (s.engine.bank k)[i].contents)
    ∧ ∀ n : Fin 32, kindByte t.slots[n].body = kindByte s.slots[n].body ∧ t.slots[n].notify = s.slots[n].notify
        ∧ t.slots[n].gen = s.slots[n].gen
        ∧ (∀ y, s.slots[n].body = .answer y → ∃ z, t.slots[n].body = .answer z ∧ z.maxAge = y.maxAge)
        ∧ (∀ y, s.slots[n].body = .beacon y → ∃ z, t.slots[n].body = .beacon z
            ∧ z = { y with seq := z.seq, timer := z.timer })

/-- R65, R66, R74: no command but RESET_ASSERT and a BANK-SWAP (by its row, as a payload of the row UNKNOWN_REQUEST, the model's
choice [log 5], or at the EOF of its frame, a request addressed to the part whose first payload byte is 14H) changes which bank is
active, and whatever keeps the selector keeps the contents of every entry of the active bank. -/
def Obligations.ActiveBankChangesOnlyBySwap : Prop :=
  (∀ (c : Instr) (s t : State), c ≠ .resetAssert → exec c s = .next t → t.engine.selector = s.engine.selector →
    ∀ i : Fin 64, t.engine.active[i].contents = s.engine.active[i].contents)
  ∧ ∀ (c : Instr) (s t : State), c ≠ .resetAssert → (∀ e ps, c ≠ .bankSwap e ps) → (∀ e ps, c ≠ .unknownRequest e 0x14 ps) →
    (∀ p, c = .receiveEof p → ∀ x, s.inbox.get p = some x → x.kind = .request false → x.payload.head? ≠ some 0x14) →
    exec c s = .next t → t.engine.selector = s.engine.selector

/-- R40, R52: a decision stands to the frame's end: no command but a byte time of the arrival port's own line changes the hold, the
decision record or the commit buffer of a path; they are kept as they were, or abandoned by the entry to BYPASS. -/
def Obligations.DecisionStandsToFrameEnd : Prop :=
  ∀ (c : Instr) (p : Port) (s t : State), receivesOn p c = false → exec c s = .next t →
    (t.paths.get (dirIn p)).flight = (s.paths.get (dirIn p)).flight
    ∨ (t.relay = .bypass ∧ (t.paths.get (dirIn p)).flight = none)
end

