-- ==== Sys2Proof/Laws/State.lean ====
section
/-! SUPPORT. The small laws of the state: ports and directions, and one law for each field under each named update. -/

namespace Sys2Proof.Machine

/-! ## Ports and directions -/

@[simp] theorem otherPort_otherPort (p : Port) : otherPort (otherPort p) = p := by cases p <;> rfl

@[simp] theorem otherPort_ne (p : Port) : otherPort p ≠ p := by cases p <;> decide

@[simp] theorem dirOut_otherPort (p : Port) : dirOut (otherPort p) = dirIn p := by cases p <;> rfl

@[simp] theorem dirIn_otherPort (p : Port) : dirIn (otherPort p) = dirOut p := by cases p <;> rfl

theorem dirIn_ne_dirOut (p : Port) : dirIn p ≠ dirOut p := by cases p <;> decide

theorem dirIn_injective {p q : Port} (h : dirIn p = dirIn q) : p = q := by cases p <;> cases q <;> first | rfl | cases h

theorem dirOut_injective {p q : Port} (h : dirOut p = dirOut q) : p = q := by cases p <;> cases q <;> first | rfl | cases h

/-! ## Values by port and by direction -/

@[ext] theorem PerPort.ext_get {α : Type} {x y : PerPort α} (h : ∀ p, x.get p = y.get p) : x = y := by
  cases x; cases y; exact congr (congrArg PerPort.mk (h .a)) (h .b)

@[ext] theorem PerDir.ext_get {α : Type} {x y : PerDir α} (h : ∀ d, x.get d = y.get d) : x = y := by
  cases x; cases y; exact congr (congrArg PerDir.mk (h .ab)) (h .ba)

@[simp] theorem PerPort.get_set_self {α : Type} (x : PerPort α) (p : Port) (a : α) : (x.set p a).get p = a := by cases p <;> rfl

theorem PerPort.get_set_of_ne {α : Type} (x : PerPort α) {p q : Port} (a : α) (h : p ≠ q) : (x.set p a).get q = x.get q := by
  cases p <;> cases q <;> first | rfl | exact absurd rfl h

theorem PerPort.get_set {α : Type} (x : PerPort α) (p q : Port) (a : α) : (x.set p a).get q = if p = q then a else x.get q := by
  cases p <;> cases q <;> rfl

@[simp] theorem PerPort.set_get_self {α : Type} (x : PerPort α) (p : Port) : x.set p (x.get p) = x := by cases p <;> rfl

@[simp] theorem PerPort.set_set {α : Type} (x : PerPort α) (p : Port) (a b : α) : (x.set p a).set p b = x.set p b := by
  cases p <;> rfl

@[simp] theorem PerDir.get_set_self {α : Type} (x : PerDir α) (d : Dir) (a : α) : (x.set d a).get d = a := by cases d <;> rfl

theorem PerDir.get_set_of_ne {α : Type} (x : PerDir α) {d q : Dir} (a : α) (h : d ≠ q) : (x.set d a).get q = x.get q := by
  cases d <;> cases q <;> first | rfl | exact absurd rfl h

theorem PerDir.get_set {α : Type} (x : PerDir α) (d q : Dir) (a : α) : (x.set d a).get q = if d = q then a else x.get q := by
  cases d <;> cases q <;> rfl

@[simp] theorem PerDir.set_get_self {α : Type} (x : PerDir α) (d : Dir) : x.set d (x.get d) = x := by cases d <;> rfl

@[simp] theorem PerDir.set_set {α : Type} (x : PerDir α) (d : Dir) (a b : α) : (x.set d a).set d b = x.set d b := by
  cases d <;> rfl

/-! ## A function on every item of a vector -/

@[simp] theorem getElem_mapVec {α : Type} {n : Nat} (f : α → α) (v : Vector α n) (i : Fin n) :
    (mapVec f v)[i] = f v[i] := by
  simp [mapVec]

/-! ## setPort -/

@[simp] theorem State.setPort_resetPin (s : State) (p : Port) (v : PortBlock) : (s.setPort p v).resetPin = s.resetPin := rfl

@[simp] theorem State.setPort_bypassPin (s : State) (p : Port) (v : PortBlock) : (s.setPort p v).bypassPin = s.bypassPin := rfl

@[simp] theorem State.setPort_rate (s : State) (p : Port) (v : PortBlock) : (s.setPort p v).rate = s.rate := rfl

@[simp] theorem State.setPort_signal (s : State) (p : Port) (v : PortBlock) : (s.setPort p v).signal = s.signal := rfl

@[simp] theorem State.setPort_timestamp (s : State) (p : Port) (v : PortBlock) : (s.setPort p v).timestamp = s.timestamp := rfl

@[simp] theorem State.setPort_divider (s : State) (p : Port) (v : PortBlock) : (s.setPort p v).divider = s.divider := rfl

@[simp] theorem State.setPort_due (s : State) (p : Port) (v : PortBlock) : (s.setPort p v).due = s.due := rfl

@[simp] theorem State.setPort_ports (s : State) (p : Port) (v : PortBlock) : (s.setPort p v).ports = s.ports.set p v := rfl

@[simp] theorem State.setPort_rx (s : State) (p : Port) (v : PortBlock) : (s.setPort p v).rx = s.rx := rfl

@[simp] theorem State.setPort_relay (s : State) (p : Port) (v : PortBlock) : (s.setPort p v).relay = s.relay := rfl

@[simp] theorem State.setPort_latch (s : State) (p : Port) (v : PortBlock) : (s.setPort p v).latch = s.latch := rfl

@[simp] theorem State.setPort_settle (s : State) (p : Port) (v : PortBlock) : (s.setPort p v).settle = s.settle := rfl

@[simp] theorem State.setPort_paths (s : State) (p : Port) (v : PortBlock) : (s.setPort p v).paths = s.paths := rfl

@[simp] theorem State.setPort_engine (s : State) (p : Port) (v : PortBlock) : (s.setPort p v).engine = s.engine := rfl

@[simp] theorem State.setPort_slots (s : State) (p : Port) (v : PortBlock) : (s.setPort p v).slots = s.slots := rfl

@[simp] theorem State.setPort_holdList (s : State) (p : Port) (v : PortBlock) : (s.setPort p v).holdList = s.holdList := rfl

@[simp] theorem State.setPort_queues (s : State) (p : Port) (v : PortBlock) : (s.setPort p v).queues = s.queues := rfl

@[simp] theorem State.setPort_ownAddr (s : State) (p : Port) (v : PortBlock) : (s.setPort p v).ownAddr = s.ownAddr := rfl

@[simp] theorem State.setPort_owner (s : State) (p : Port) (v : PortBlock) : (s.setPort p v).owner = s.owner := rfl

@[simp] theorem State.setPort_cache (s : State) (p : Port) (v : PortBlock) : (s.setPort p v).cache = s.cache := rfl

@[simp] theorem State.setPort_inbox (s : State) (p : Port) (v : PortBlock) : (s.setPort p v).inbox = s.inbox := rfl

@[simp] theorem State.setPort_restartPending (s : State) (p : Port) (v : PortBlock) : (s.setPort p v).restartPending = s.restartPending := rfl

@[simp] theorem State.setPort_notice (s : State) (p : Port) (v : PortBlock) : (s.setPort p v).notice = s.notice := rfl

@[simp] theorem State.setPort_settings (s : State) (p : Port) (v : PortBlock) : (s.setPort p v).settings = s.settings := rfl

@[simp] theorem State.setPort_portStats (s : State) (p : Port) (v : PortBlock) : (s.setPort p v).portStats = s.portStats := rfl

@[simp] theorem State.setPort_dirStats (s : State) (p : Port) (v : PortBlock) : (s.setPort p v).dirStats = s.dirStats := rfl

@[simp] theorem State.setPort_proxyStats (s : State) (p : Port) (v : PortBlock) : (s.setPort p v).proxyStats = s.proxyStats := rfl

@[simp] theorem State.setPort_agentStats (s : State) (p : Port) (v : PortBlock) : (s.setPort p v).agentStats = s.agentStats := rfl

@[simp] theorem State.setPort_freeCount (s : State) (p : Port) (v : PortBlock) : (s.setPort p v).freeCount = s.freeCount := rfl

@[simp] theorem State.setPort_pending (s : State) (p : Port) (v : PortBlock) : (s.setPort p v).pending = s.pending := rfl

/-! ## setRx -/

@[simp] theorem State.setRx_resetPin (s : State) (p : Port) (v : Receiver) : (s.setRx p v).resetPin = s.resetPin := rfl

@[simp] theorem State.setRx_bypassPin (s : State) (p : Port) (v : Receiver) : (s.setRx p v).bypassPin = s.bypassPin := rfl

@[simp] theorem State.setRx_rate (s : State) (p : Port) (v : Receiver) : (s.setRx p v).rate = s.rate := rfl

@[simp] theorem State.setRx_signal (s : State) (p : Port) (v : Receiver) : (s.setRx p v).signal = s.signal := rfl

@[simp] theorem State.setRx_timestamp (s : State) (p : Port) (v : Receiver) : (s.setRx p v).timestamp = s.timestamp := rfl

@[simp] theorem State.setRx_divider (s : State) (p : Port) (v : Receiver) : (s.setRx p v).divider = s.divider := rfl

@[simp] theorem State.setRx_due (s : State) (p : Port) (v : Receiver) : (s.setRx p v).due = s.due := rfl

@[simp] theorem State.setRx_ports (s : State) (p : Port) (v : Receiver) : (s.setRx p v).ports = s.ports := rfl

@[simp] theorem State.setRx_rx (s : State) (p : Port) (v : Receiver) : (s.setRx p v).rx = s.rx.set p v := rfl

@[simp] theorem State.setRx_relay (s : State) (p : Port) (v : Receiver) : (s.setRx p v).relay = s.relay := rfl

@[simp] theorem State.setRx_latch (s : State) (p : Port) (v : Receiver) : (s.setRx p v).latch = s.latch := rfl

@[simp] theorem State.setRx_settle (s : State) (p : Port) (v : Receiver) : (s.setRx p v).settle = s.settle := rfl

@[simp] theorem State.setRx_paths (s : State) (p : Port) (v : Receiver) : (s.setRx p v).paths = s.paths := rfl

@[simp] theorem State.setRx_engine (s : State) (p : Port) (v : Receiver) : (s.setRx p v).engine = s.engine := rfl

@[simp] theorem State.setRx_slots (s : State) (p : Port) (v : Receiver) : (s.setRx p v).slots = s.slots := rfl

@[simp] theorem State.setRx_holdList (s : State) (p : Port) (v : Receiver) : (s.setRx p v).holdList = s.holdList := rfl

@[simp] theorem State.setRx_queues (s : State) (p : Port) (v : Receiver) : (s.setRx p v).queues = s.queues := rfl

@[simp] theorem State.setRx_ownAddr (s : State) (p : Port) (v : Receiver) : (s.setRx p v).ownAddr = s.ownAddr := rfl

@[simp] theorem State.setRx_owner (s : State) (p : Port) (v : Receiver) : (s.setRx p v).owner = s.owner := rfl

@[simp] theorem State.setRx_cache (s : State) (p : Port) (v : Receiver) : (s.setRx p v).cache = s.cache := rfl

@[simp] theorem State.setRx_inbox (s : State) (p : Port) (v : Receiver) : (s.setRx p v).inbox = s.inbox := rfl

@[simp] theorem State.setRx_restartPending (s : State) (p : Port) (v : Receiver) : (s.setRx p v).restartPending = s.restartPending := rfl

@[simp] theorem State.setRx_notice (s : State) (p : Port) (v : Receiver) : (s.setRx p v).notice = s.notice := rfl

@[simp] theorem State.setRx_settings (s : State) (p : Port) (v : Receiver) : (s.setRx p v).settings = s.settings := rfl

@[simp] theorem State.setRx_portStats (s : State) (p : Port) (v : Receiver) : (s.setRx p v).portStats = s.portStats := rfl

@[simp] theorem State.setRx_dirStats (s : State) (p : Port) (v : Receiver) : (s.setRx p v).dirStats = s.dirStats := rfl

@[simp] theorem State.setRx_proxyStats (s : State) (p : Port) (v : Receiver) : (s.setRx p v).proxyStats = s.proxyStats := rfl

@[simp] theorem State.setRx_agentStats (s : State) (p : Port) (v : Receiver) : (s.setRx p v).agentStats = s.agentStats := rfl

@[simp] theorem State.setRx_freeCount (s : State) (p : Port) (v : Receiver) : (s.setRx p v).freeCount = s.freeCount := rfl

@[simp] theorem State.setRx_pending (s : State) (p : Port) (v : Receiver) : (s.setRx p v).pending = s.pending := rfl

/-! ## setPath -/

@[simp] theorem State.setPath_resetPin (s : State) (d : Dir) (v : RelayPath) : (s.setPath d v).resetPin = s.resetPin := rfl

@[simp] theorem State.setPath_bypassPin (s : State) (d : Dir) (v : RelayPath) : (s.setPath d v).bypassPin = s.bypassPin := rfl

@[simp] theorem State.setPath_rate (s : State) (d : Dir) (v : RelayPath) : (s.setPath d v).rate = s.rate := rfl

@[simp] theorem State.setPath_signal (s : State) (d : Dir) (v : RelayPath) : (s.setPath d v).signal = s.signal := rfl

@[simp] theorem State.setPath_timestamp (s : State) (d : Dir) (v : RelayPath) : (s.setPath d v).timestamp = s.timestamp := rfl

@[simp] theorem State.setPath_divider (s : State) (d : Dir) (v : RelayPath) : (s.setPath d v).divider = s.divider := rfl

@[simp] theorem State.setPath_due (s : State) (d : Dir) (v : RelayPath) : (s.setPath d v).due = s.due := rfl

@[simp] theorem State.setPath_ports (s : State) (d : Dir) (v : RelayPath) : (s.setPath d v).ports = s.ports := rfl

@[simp] theorem State.setPath_rx (s : State) (d : Dir) (v : RelayPath) : (s.setPath d v).rx = s.rx := rfl

@[simp] theorem State.setPath_relay (s : State) (d : Dir) (v : RelayPath) : (s.setPath d v).relay = s.relay := rfl

@[simp] theorem State.setPath_latch (s : State) (d : Dir) (v : RelayPath) : (s.setPath d v).latch = s.latch := rfl

@[simp] theorem State.setPath_settle (s : State) (d : Dir) (v : RelayPath) : (s.setPath d v).settle = s.settle := rfl

@[simp] theorem State.setPath_paths (s : State) (d : Dir) (v : RelayPath) : (s.setPath d v).paths = s.paths.set d v := rfl

@[simp] theorem State.setPath_engine (s : State) (d : Dir) (v : RelayPath) : (s.setPath d v).engine = s.engine := rfl

@[simp] theorem State.setPath_slots (s : State) (d : Dir) (v : RelayPath) : (s.setPath d v).slots = s.slots := rfl

@[simp] theorem State.setPath_holdList (s : State) (d : Dir) (v : RelayPath) : (s.setPath d v).holdList = s.holdList := rfl

@[simp] theorem State.setPath_queues (s : State) (d : Dir) (v : RelayPath) : (s.setPath d v).queues = s.queues := rfl

@[simp] theorem State.setPath_ownAddr (s : State) (d : Dir) (v : RelayPath) : (s.setPath d v).ownAddr = s.ownAddr := rfl

@[simp] theorem State.setPath_owner (s : State) (d : Dir) (v : RelayPath) : (s.setPath d v).owner = s.owner := rfl

@[simp] theorem State.setPath_cache (s : State) (d : Dir) (v : RelayPath) : (s.setPath d v).cache = s.cache := rfl

@[simp] theorem State.setPath_inbox (s : State) (d : Dir) (v : RelayPath) : (s.setPath d v).inbox = s.inbox := rfl

@[simp] theorem State.setPath_restartPending (s : State) (d : Dir) (v : RelayPath) : (s.setPath d v).restartPending = s.restartPending := rfl

@[simp] theorem State.setPath_notice (s : State) (d : Dir) (v : RelayPath) : (s.setPath d v).notice = s.notice := rfl

@[simp] theorem State.setPath_settings (s : State) (d : Dir) (v : RelayPath) : (s.setPath d v).settings = s.settings := rfl

@[simp] theorem State.setPath_portStats (s : State) (d : Dir) (v : RelayPath) : (s.setPath d v).portStats = s.portStats := rfl

@[simp] theorem State.setPath_dirStats (s : State) (d : Dir) (v : RelayPath) : (s.setPath d v).dirStats = s.dirStats := rfl

@[simp] theorem State.setPath_proxyStats (s : State) (d : Dir) (v : RelayPath) : (s.setPath d v).proxyStats = s.proxyStats := rfl

@[simp] theorem State.setPath_agentStats (s : State) (d : Dir) (v : RelayPath) : (s.setPath d v).agentStats = s.agentStats := rfl

@[simp] theorem State.setPath_freeCount (s : State) (d : Dir) (v : RelayPath) : (s.setPath d v).freeCount = s.freeCount := rfl

@[simp] theorem State.setPath_pending (s : State) (d : Dir) (v : RelayPath) : (s.setPath d v).pending = s.pending := rfl

/-! ## setQueue -/

@[simp] theorem State.setQueue_resetPin (s : State) (p : Port) (v : Queue) : (s.setQueue p v).resetPin = s.resetPin := rfl

@[simp] theorem State.setQueue_bypassPin (s : State) (p : Port) (v : Queue) : (s.setQueue p v).bypassPin = s.bypassPin := rfl

@[simp] theorem State.setQueue_rate (s : State) (p : Port) (v : Queue) : (s.setQueue p v).rate = s.rate := rfl

@[simp] theorem State.setQueue_signal (s : State) (p : Port) (v : Queue) : (s.setQueue p v).signal = s.signal := rfl

@[simp] theorem State.setQueue_timestamp (s : State) (p : Port) (v : Queue) : (s.setQueue p v).timestamp = s.timestamp := rfl

@[simp] theorem State.setQueue_divider (s : State) (p : Port) (v : Queue) : (s.setQueue p v).divider = s.divider := rfl

@[simp] theorem State.setQueue_due (s : State) (p : Port) (v : Queue) : (s.setQueue p v).due = s.due := rfl

@[simp] theorem State.setQueue_ports (s : State) (p : Port) (v : Queue) : (s.setQueue p v).ports = s.ports := rfl

@[simp] theorem State.setQueue_rx (s : State) (p : Port) (v : Queue) : (s.setQueue p v).rx = s.rx := rfl

@[simp] theorem State.setQueue_relay (s : State) (p : Port) (v : Queue) : (s.setQueue p v).relay = s.relay := rfl

@[simp] theorem State.setQueue_latch (s : State) (p : Port) (v : Queue) : (s.setQueue p v).latch = s.latch := rfl

@[simp] theorem State.setQueue_settle (s : State) (p : Port) (v : Queue) : (s.setQueue p v).settle = s.settle := rfl

@[simp] theorem State.setQueue_paths (s : State) (p : Port) (v : Queue) : (s.setQueue p v).paths = s.paths := rfl

@[simp] theorem State.setQueue_engine (s : State) (p : Port) (v : Queue) : (s.setQueue p v).engine = s.engine := rfl

@[simp] theorem State.setQueue_slots (s : State) (p : Port) (v : Queue) : (s.setQueue p v).slots = s.slots := rfl

@[simp] theorem State.setQueue_holdList (s : State) (p : Port) (v : Queue) : (s.setQueue p v).holdList = s.holdList := rfl

@[simp] theorem State.setQueue_queues (s : State) (p : Port) (v : Queue) : (s.setQueue p v).queues = s.queues.set p v := rfl

@[simp] theorem State.setQueue_ownAddr (s : State) (p : Port) (v : Queue) : (s.setQueue p v).ownAddr = s.ownAddr := rfl

@[simp] theorem State.setQueue_owner (s : State) (p : Port) (v : Queue) : (s.setQueue p v).owner = s.owner := rfl

@[simp] theorem State.setQueue_cache (s : State) (p : Port) (v : Queue) : (s.setQueue p v).cache = s.cache := rfl

@[simp] theorem State.setQueue_inbox (s : State) (p : Port) (v : Queue) : (s.setQueue p v).inbox = s.inbox := rfl

@[simp] theorem State.setQueue_restartPending (s : State) (p : Port) (v : Queue) : (s.setQueue p v).restartPending = s.restartPending := rfl

@[simp] theorem State.setQueue_notice (s : State) (p : Port) (v : Queue) : (s.setQueue p v).notice = s.notice := rfl

@[simp] theorem State.setQueue_settings (s : State) (p : Port) (v : Queue) : (s.setQueue p v).settings = s.settings := rfl

@[simp] theorem State.setQueue_portStats (s : State) (p : Port) (v : Queue) : (s.setQueue p v).portStats = s.portStats := rfl

@[simp] theorem State.setQueue_dirStats (s : State) (p : Port) (v : Queue) : (s.setQueue p v).dirStats = s.dirStats := rfl

@[simp] theorem State.setQueue_proxyStats (s : State) (p : Port) (v : Queue) : (s.setQueue p v).proxyStats = s.proxyStats := rfl

@[simp] theorem State.setQueue_agentStats (s : State) (p : Port) (v : Queue) : (s.setQueue p v).agentStats = s.agentStats := rfl

@[simp] theorem State.setQueue_freeCount (s : State) (p : Port) (v : Queue) : (s.setQueue p v).freeCount = s.freeCount := rfl

@[simp] theorem State.setQueue_pending (s : State) (p : Port) (v : Queue) : (s.setQueue p v).pending = s.pending := rfl

/-! ## setSlot -/

@[simp] theorem State.setSlot_resetPin (s : State) (n : Fin 32) (v : Slot) : (s.setSlot n v).resetPin = s.resetPin := rfl

@[simp] theorem State.setSlot_bypassPin (s : State) (n : Fin 32) (v : Slot) : (s.setSlot n v).bypassPin = s.bypassPin := rfl

@[simp] theorem State.setSlot_rate (s : State) (n : Fin 32) (v : Slot) : (s.setSlot n v).rate = s.rate := rfl

@[simp] theorem State.setSlot_signal (s : State) (n : Fin 32) (v : Slot) : (s.setSlot n v).signal = s.signal := rfl

@[simp] theorem State.setSlot_timestamp (s : State) (n : Fin 32) (v : Slot) : (s.setSlot n v).timestamp = s.timestamp := rfl

@[simp] theorem State.setSlot_divider (s : State) (n : Fin 32) (v : Slot) : (s.setSlot n v).divider = s.divider := rfl

@[simp] theorem State.setSlot_due (s : State) (n : Fin 32) (v : Slot) : (s.setSlot n v).due = s.due := rfl

@[simp] theorem State.setSlot_ports (s : State) (n : Fin 32) (v : Slot) : (s.setSlot n v).ports = s.ports := rfl

@[simp] theorem State.setSlot_rx (s : State) (n : Fin 32) (v : Slot) : (s.setSlot n v).rx = s.rx := rfl

@[simp] theorem State.setSlot_relay (s : State) (n : Fin 32) (v : Slot) : (s.setSlot n v).relay = s.relay := rfl

@[simp] theorem State.setSlot_latch (s : State) (n : Fin 32) (v : Slot) : (s.setSlot n v).latch = s.latch := rfl

@[simp] theorem State.setSlot_settle (s : State) (n : Fin 32) (v : Slot) : (s.setSlot n v).settle = s.settle := rfl

@[simp] theorem State.setSlot_paths (s : State) (n : Fin 32) (v : Slot) : (s.setSlot n v).paths = s.paths := rfl

@[simp] theorem State.setSlot_engine (s : State) (n : Fin 32) (v : Slot) : (s.setSlot n v).engine = s.engine := rfl

@[simp] theorem State.setSlot_slots (s : State) (n : Fin 32) (v : Slot) : (s.setSlot n v).slots = s.slots.set n v := rfl

@[simp] theorem State.setSlot_holdList (s : State) (n : Fin 32) (v : Slot) : (s.setSlot n v).holdList = s.holdList := rfl

@[simp] theorem State.setSlot_queues (s : State) (n : Fin 32) (v : Slot) : (s.setSlot n v).queues = s.queues := rfl

@[simp] theorem State.setSlot_ownAddr (s : State) (n : Fin 32) (v : Slot) : (s.setSlot n v).ownAddr = s.ownAddr := rfl

@[simp] theorem State.setSlot_owner (s : State) (n : Fin 32) (v : Slot) : (s.setSlot n v).owner = s.owner := rfl

@[simp] theorem State.setSlot_cache (s : State) (n : Fin 32) (v : Slot) : (s.setSlot n v).cache = s.cache := rfl

@[simp] theorem State.setSlot_inbox (s : State) (n : Fin 32) (v : Slot) : (s.setSlot n v).inbox = s.inbox := rfl

@[simp] theorem State.setSlot_restartPending (s : State) (n : Fin 32) (v : Slot) : (s.setSlot n v).restartPending = s.restartPending := rfl

@[simp] theorem State.setSlot_notice (s : State) (n : Fin 32) (v : Slot) : (s.setSlot n v).notice = s.notice := rfl

@[simp] theorem State.setSlot_settings (s : State) (n : Fin 32) (v : Slot) : (s.setSlot n v).settings = s.settings := rfl

@[simp] theorem State.setSlot_portStats (s : State) (n : Fin 32) (v : Slot) : (s.setSlot n v).portStats = s.portStats := rfl

@[simp] theorem State.setSlot_dirStats (s : State) (n : Fin 32) (v : Slot) : (s.setSlot n v).dirStats = s.dirStats := rfl

@[simp] theorem State.setSlot_proxyStats (s : State) (n : Fin 32) (v : Slot) : (s.setSlot n v).proxyStats = s.proxyStats := rfl

@[simp] theorem State.setSlot_agentStats (s : State) (n : Fin 32) (v : Slot) : (s.setSlot n v).agentStats = s.agentStats := rfl

@[simp] theorem State.setSlot_freeCount (s : State) (n : Fin 32) (v : Slot) : (s.setSlot n v).freeCount = s.freeCount := rfl

@[simp] theorem State.setSlot_pending (s : State) (n : Fin 32) (v : Slot) : (s.setSlot n v).pending = s.pending := rfl

/-! ## setInbox -/

@[simp] theorem State.setInbox_resetPin (s : State) (p : Port) (v : Option Inbox) : (s.setInbox p v).resetPin = s.resetPin := rfl

@[simp] theorem State.setInbox_bypassPin (s : State) (p : Port) (v : Option Inbox) : (s.setInbox p v).bypassPin = s.bypassPin := rfl

@[simp] theorem State.setInbox_rate (s : State) (p : Port) (v : Option Inbox) : (s.setInbox p v).rate = s.rate := rfl

@[simp] theorem State.setInbox_signal (s : State) (p : Port) (v : Option Inbox) : (s.setInbox p v).signal = s.signal := rfl

@[simp] theorem State.setInbox_timestamp (s : State) (p : Port) (v : Option Inbox) : (s.setInbox p v).timestamp = s.timestamp := rfl

@[simp] theorem State.setInbox_divider (s : State) (p : Port) (v : Option Inbox) : (s.setInbox p v).divider = s.divider := rfl

@[simp] theorem State.setInbox_due (s : State) (p : Port) (v : Option Inbox) : (s.setInbox p v).due = s.due := rfl

@[simp] theorem State.setInbox_ports (s : State) (p : Port) (v : Option Inbox) : (s.setInbox p v).ports = s.ports := rfl

@[simp] theorem State.setInbox_rx (s : State) (p : Port) (v : Option Inbox) : (s.setInbox p v).rx = s.rx := rfl

@[simp] theorem State.setInbox_relay (s : State) (p : Port) (v : Option Inbox) : (s.setInbox p v).relay = s.relay := rfl

@[simp] theorem State.setInbox_latch (s : State) (p : Port) (v : Option Inbox) : (s.setInbox p v).latch = s.latch := rfl

@[simp] theorem State.setInbox_settle (s : State) (p : Port) (v : Option Inbox) : (s.setInbox p v).settle = s.settle := rfl

@[simp] theorem State.setInbox_paths (s : State) (p : Port) (v : Option Inbox) : (s.setInbox p v).paths = s.paths := rfl

@[simp] theorem State.setInbox_engine (s : State) (p : Port) (v : Option Inbox) : (s.setInbox p v).engine = s.engine := rfl

@[simp] theorem State.setInbox_slots (s : State) (p : Port) (v : Option Inbox) : (s.setInbox p v).slots = s.slots := rfl

@[simp] theorem State.setInbox_holdList (s : State) (p : Port) (v : Option Inbox) : (s.setInbox p v).holdList = s.holdList := rfl

@[simp] theorem State.setInbox_queues (s : State) (p : Port) (v : Option Inbox) : (s.setInbox p v).queues = s.queues := rfl

@[simp] theorem State.setInbox_ownAddr (s : State) (p : Port) (v : Option Inbox) : (s.setInbox p v).ownAddr = s.ownAddr := rfl

@[simp] theorem State.setInbox_owner (s : State) (p : Port) (v : Option Inbox) : (s.setInbox p v).owner = s.owner := rfl

@[simp] theorem State.setInbox_cache (s : State) (p : Port) (v : Option Inbox) : (s.setInbox p v).cache = s.cache := rfl

@[simp] theorem State.setInbox_inbox (s : State) (p : Port) (v : Option Inbox) : (s.setInbox p v).inbox = s.inbox.set p v := rfl

@[simp] theorem State.setInbox_restartPending (s : State) (p : Port) (v : Option Inbox) : (s.setInbox p v).restartPending = s.restartPending := rfl

@[simp] theorem State.setInbox_notice (s : State) (p : Port) (v : Option Inbox) : (s.setInbox p v).notice = s.notice := rfl

@[simp] theorem State.setInbox_settings (s : State) (p : Port) (v : Option Inbox) : (s.setInbox p v).settings = s.settings := rfl

@[simp] theorem State.setInbox_portStats (s : State) (p : Port) (v : Option Inbox) : (s.setInbox p v).portStats = s.portStats := rfl

@[simp] theorem State.setInbox_dirStats (s : State) (p : Port) (v : Option Inbox) : (s.setInbox p v).dirStats = s.dirStats := rfl

@[simp] theorem State.setInbox_proxyStats (s : State) (p : Port) (v : Option Inbox) : (s.setInbox p v).proxyStats = s.proxyStats := rfl

@[simp] theorem State.setInbox_agentStats (s : State) (p : Port) (v : Option Inbox) : (s.setInbox p v).agentStats = s.agentStats := rfl

@[simp] theorem State.setInbox_freeCount (s : State) (p : Port) (v : Option Inbox) : (s.setInbox p v).freeCount = s.freeCount := rfl

@[simp] theorem State.setInbox_pending (s : State) (p : Port) (v : Option Inbox) : (s.setInbox p v).pending = s.pending := rfl

/-! ## bumpPort -/

@[simp] theorem State.bumpPort_resetPin (s : State) (p : Port) (f : PortCounters → PortCounters) : (s.bumpPort p f).resetPin = s.resetPin := rfl

@[simp] theorem State.bumpPort_bypassPin (s : State) (p : Port) (f : PortCounters → PortCounters) : (s.bumpPort p f).bypassPin = s.bypassPin := rfl

@[simp] theorem State.bumpPort_rate (s : State) (p : Port) (f : PortCounters → PortCounters) : (s.bumpPort p f).rate = s.rate := rfl

@[simp] theorem State.bumpPort_signal (s : State) (p : Port) (f : PortCounters → PortCounters) : (s.bumpPort p f).signal = s.signal := rfl

@[simp] theorem State.bumpPort_timestamp (s : State) (p : Port) (f : PortCounters → PortCounters) : (s.bumpPort p f).timestamp = s.timestamp := rfl

@[simp] theorem State.bumpPort_divider (s : State) (p : Port) (f : PortCounters → PortCounters) : (s.bumpPort p f).divider = s.divider := rfl

@[simp] theorem State.bumpPort_due (s : State) (p : Port) (f : PortCounters → PortCounters) : (s.bumpPort p f).due = s.due := rfl

@[simp] theorem State.bumpPort_ports (s : State) (p : Port) (f : PortCounters → PortCounters) : (s.bumpPort p f).ports = s.ports := rfl

@[simp] theorem State.bumpPort_rx (s : State) (p : Port) (f : PortCounters → PortCounters) : (s.bumpPort p f).rx = s.rx := rfl

@[simp] theorem State.bumpPort_relay (s : State) (p : Port) (f : PortCounters → PortCounters) : (s.bumpPort p f).relay = s.relay := rfl

@[simp] theorem State.bumpPort_latch (s : State) (p : Port) (f : PortCounters → PortCounters) : (s.bumpPort p f).latch = s.latch := rfl

@[simp] theorem State.bumpPort_settle (s : State) (p : Port) (f : PortCounters → PortCounters) : (s.bumpPort p f).settle = s.settle := rfl

@[simp] theorem State.bumpPort_paths (s : State) (p : Port) (f : PortCounters → PortCounters) : (s.bumpPort p f).paths = s.paths := rfl

@[simp] theorem State.bumpPort_engine (s : State) (p : Port) (f : PortCounters → PortCounters) : (s.bumpPort p f).engine = s.engine := rfl

@[simp] theorem State.bumpPort_slots (s : State) (p : Port) (f : PortCounters → PortCounters) : (s.bumpPort p f).slots = s.slots := rfl

@[simp] theorem State.bumpPort_holdList (s : State) (p : Port) (f : PortCounters → PortCounters) : (s.bumpPort p f).holdList = s.holdList := rfl

@[simp] theorem State.bumpPort_queues (s : State) (p : Port) (f : PortCounters → PortCounters) : (s.bumpPort p f).queues = s.queues := rfl

@[simp] theorem State.bumpPort_ownAddr (s : State) (p : Port) (f : PortCounters → PortCounters) : (s.bumpPort p f).ownAddr = s.ownAddr := rfl

@[simp] theorem State.bumpPort_owner (s : State) (p : Port) (f : PortCounters → PortCounters) : (s.bumpPort p f).owner = s.owner := rfl

@[simp] theorem State.bumpPort_cache (s : State) (p : Port) (f : PortCounters → PortCounters) : (s.bumpPort p f).cache = s.cache := rfl

@[simp] theorem State.bumpPort_inbox (s : State) (p : Port) (f : PortCounters → PortCounters) : (s.bumpPort p f).inbox = s.inbox := rfl

@[simp] theorem State.bumpPort_restartPending (s : State) (p : Port) (f : PortCounters → PortCounters) : (s.bumpPort p f).restartPending = s.restartPending := rfl

@[simp] theorem State.bumpPort_notice (s : State) (p : Port) (f : PortCounters → PortCounters) : (s.bumpPort p f).notice = s.notice := rfl

@[simp] theorem State.bumpPort_settings (s : State) (p : Port) (f : PortCounters → PortCounters) : (s.bumpPort p f).settings = s.settings := rfl

@[simp] theorem State.bumpPort_portStats (s : State) (p : Port) (f : PortCounters → PortCounters) : (s.bumpPort p f).portStats = s.portStats.set p (f (s.portStats.get p)) := rfl

@[simp] theorem State.bumpPort_dirStats (s : State) (p : Port) (f : PortCounters → PortCounters) : (s.bumpPort p f).dirStats = s.dirStats := rfl

@[simp] theorem State.bumpPort_proxyStats (s : State) (p : Port) (f : PortCounters → PortCounters) : (s.bumpPort p f).proxyStats = s.proxyStats := rfl

@[simp] theorem State.bumpPort_agentStats (s : State) (p : Port) (f : PortCounters → PortCounters) : (s.bumpPort p f).agentStats = s.agentStats := rfl

@[simp] theorem State.bumpPort_freeCount (s : State) (p : Port) (f : PortCounters → PortCounters) : (s.bumpPort p f).freeCount = s.freeCount := rfl

@[simp] theorem State.bumpPort_pending (s : State) (p : Port) (f : PortCounters → PortCounters) : (s.bumpPort p f).pending = s.pending := rfl

/-! ## bumpDir -/

@[simp] theorem State.bumpDir_resetPin (s : State) (d : Dir) (f : DirCounters → DirCounters) : (s.bumpDir d f).resetPin = s.resetPin := rfl

@[simp] theorem State.bumpDir_bypassPin (s : State) (d : Dir) (f : DirCounters → DirCounters) : (s.bumpDir d f).bypassPin = s.bypassPin := rfl

@[simp] theorem State.bumpDir_rate (s : State) (d : Dir) (f : DirCounters → DirCounters) : (s.bumpDir d f).rate = s.rate := rfl

@[simp] theorem State.bumpDir_signal (s : State) (d : Dir) (f : DirCounters → DirCounters) : (s.bumpDir d f).signal = s.signal := rfl

@[simp] theorem State.bumpDir_timestamp (s : State) (d : Dir) (f : DirCounters → DirCounters) : (s.bumpDir d f).timestamp = s.timestamp := rfl

@[simp] theorem State.bumpDir_divider (s : State) (d : Dir) (f : DirCounters → DirCounters) : (s.bumpDir d f).divider = s.divider := rfl

@[simp] theorem State.bumpDir_due (s : State) (d : Dir) (f : DirCounters → DirCounters) : (s.bumpDir d f).due = s.due := rfl

@[simp] theorem State.bumpDir_ports (s : State) (d : Dir) (f : DirCounters → DirCounters) : (s.bumpDir d f).ports = s.ports := rfl

@[simp] theorem State.bumpDir_rx (s : State) (d : Dir) (f : DirCounters → DirCounters) : (s.bumpDir d f).rx = s.rx := rfl

@[simp] theorem State.bumpDir_relay (s : State) (d : Dir) (f : DirCounters → DirCounters) : (s.bumpDir d f).relay = s.relay := rfl

@[simp] theorem State.bumpDir_latch (s : State) (d : Dir) (f : DirCounters → DirCounters) : (s.bumpDir d f).latch = s.latch := rfl

@[simp] theorem State.bumpDir_settle (s : State) (d : Dir) (f : DirCounters → DirCounters) : (s.bumpDir d f).settle = s.settle := rfl

@[simp] theorem State.bumpDir_paths (s : State) (d : Dir) (f : DirCounters → DirCounters) : (s.bumpDir d f).paths = s.paths := rfl

@[simp] theorem State.bumpDir_engine (s : State) (d : Dir) (f : DirCounters → DirCounters) : (s.bumpDir d f).engine = s.engine := rfl

@[simp] theorem State.bumpDir_slots (s : State) (d : Dir) (f : DirCounters → DirCounters) : (s.bumpDir d f).slots = s.slots := rfl

@[simp] theorem State.bumpDir_holdList (s : State) (d : Dir) (f : DirCounters → DirCounters) : (s.bumpDir d f).holdList = s.holdList := rfl

@[simp] theorem State.bumpDir_queues (s : State) (d : Dir) (f : DirCounters → DirCounters) : (s.bumpDir d f).queues = s.queues := rfl

@[simp] theorem State.bumpDir_ownAddr (s : State) (d : Dir) (f : DirCounters → DirCounters) : (s.bumpDir d f).ownAddr = s.ownAddr := rfl

@[simp] theorem State.bumpDir_owner (s : State) (d : Dir) (f : DirCounters → DirCounters) : (s.bumpDir d f).owner = s.owner := rfl

@[simp] theorem State.bumpDir_cache (s : State) (d : Dir) (f : DirCounters → DirCounters) : (s.bumpDir d f).cache = s.cache := rfl

@[simp] theorem State.bumpDir_inbox (s : State) (d : Dir) (f : DirCounters → DirCounters) : (s.bumpDir d f).inbox = s.inbox := rfl

@[simp] theorem State.bumpDir_restartPending (s : State) (d : Dir) (f : DirCounters → DirCounters) : (s.bumpDir d f).restartPending = s.restartPending := rfl

@[simp] theorem State.bumpDir_notice (s : State) (d : Dir) (f : DirCounters → DirCounters) : (s.bumpDir d f).notice = s.notice := rfl

@[simp] theorem State.bumpDir_settings (s : State) (d : Dir) (f : DirCounters → DirCounters) : (s.bumpDir d f).settings = s.settings := rfl

@[simp] theorem State.bumpDir_portStats (s : State) (d : Dir) (f : DirCounters → DirCounters) : (s.bumpDir d f).portStats = s.portStats := rfl

@[simp] theorem State.bumpDir_dirStats (s : State) (d : Dir) (f : DirCounters → DirCounters) : (s.bumpDir d f).dirStats = s.dirStats.set d (f (s.dirStats.get d)) := rfl

@[simp] theorem State.bumpDir_proxyStats (s : State) (d : Dir) (f : DirCounters → DirCounters) : (s.bumpDir d f).proxyStats = s.proxyStats := rfl

@[simp] theorem State.bumpDir_agentStats (s : State) (d : Dir) (f : DirCounters → DirCounters) : (s.bumpDir d f).agentStats = s.agentStats := rfl

@[simp] theorem State.bumpDir_freeCount (s : State) (d : Dir) (f : DirCounters → DirCounters) : (s.bumpDir d f).freeCount = s.freeCount := rfl

@[simp] theorem State.bumpDir_pending (s : State) (d : Dir) (f : DirCounters → DirCounters) : (s.bumpDir d f).pending = s.pending := rfl

/-! ## bumpProxy -/

@[simp] theorem State.bumpProxy_resetPin (s : State) (f : ProxyCounters → ProxyCounters) : (s.bumpProxy f).resetPin = s.resetPin := rfl

@[simp] theorem State.bumpProxy_bypassPin (s : State) (f : ProxyCounters → ProxyCounters) : (s.bumpProxy f).bypassPin = s.bypassPin := rfl

@[simp] theorem State.bumpProxy_rate (s : State) (f : ProxyCounters → ProxyCounters) : (s.bumpProxy f).rate = s.rate := rfl

@[simp] theorem State.bumpProxy_signal (s : State) (f : ProxyCounters → ProxyCounters) : (s.bumpProxy f).signal = s.signal := rfl

@[simp] theorem State.bumpProxy_timestamp (s : State) (f : ProxyCounters → ProxyCounters) : (s.bumpProxy f).timestamp = s.timestamp := rfl

@[simp] theorem State.bumpProxy_divider (s : State) (f : ProxyCounters → ProxyCounters) : (s.bumpProxy f).divider = s.divider := rfl

@[simp] theorem State.bumpProxy_due (s : State) (f : ProxyCounters → ProxyCounters) : (s.bumpProxy f).due = s.due := rfl

@[simp] theorem State.bumpProxy_ports (s : State) (f : ProxyCounters → ProxyCounters) : (s.bumpProxy f).ports = s.ports := rfl

@[simp] theorem State.bumpProxy_rx (s : State) (f : ProxyCounters → ProxyCounters) : (s.bumpProxy f).rx = s.rx := rfl

@[simp] theorem State.bumpProxy_relay (s : State) (f : ProxyCounters → ProxyCounters) : (s.bumpProxy f).relay = s.relay := rfl

@[simp] theorem State.bumpProxy_latch (s : State) (f : ProxyCounters → ProxyCounters) : (s.bumpProxy f).latch = s.latch := rfl

@[simp] theorem State.bumpProxy_settle (s : State) (f : ProxyCounters → ProxyCounters) : (s.bumpProxy f).settle = s.settle := rfl

@[simp] theorem State.bumpProxy_paths (s : State) (f : ProxyCounters → ProxyCounters) : (s.bumpProxy f).paths = s.paths := rfl

@[simp] theorem State.bumpProxy_engine (s : State) (f : ProxyCounters → ProxyCounters) : (s.bumpProxy f).engine = s.engine := rfl

@[simp] theorem State.bumpProxy_slots (s : State) (f : ProxyCounters → ProxyCounters) : (s.bumpProxy f).slots = s.slots := rfl

@[simp] theorem State.bumpProxy_holdList (s : State) (f : ProxyCounters → ProxyCounters) : (s.bumpProxy f).holdList = s.holdList := rfl

@[simp] theorem State.bumpProxy_queues (s : State) (f : ProxyCounters → ProxyCounters) : (s.bumpProxy f).queues = s.queues := rfl

@[simp] theorem State.bumpProxy_ownAddr (s : State) (f : ProxyCounters → ProxyCounters) : (s.bumpProxy f).ownAddr = s.ownAddr := rfl

@[simp] theorem State.bumpProxy_owner (s : State) (f : ProxyCounters → ProxyCounters) : (s.bumpProxy f).owner = s.owner := rfl

@[simp] theorem State.bumpProxy_cache (s : State) (f : ProxyCounters → ProxyCounters) : (s.bumpProxy f).cache = s.cache := rfl

@[simp] theorem State.bumpProxy_inbox (s : State) (f : ProxyCounters → ProxyCounters) : (s.bumpProxy f).inbox = s.inbox := rfl

@[simp] theorem State.bumpProxy_restartPending (s : State) (f : ProxyCounters → ProxyCounters) : (s.bumpProxy f).restartPending = s.restartPending := rfl

@[simp] theorem State.bumpProxy_notice (s : State) (f : ProxyCounters → ProxyCounters) : (s.bumpProxy f).notice = s.notice := rfl

@[simp] theorem State.bumpProxy_settings (s : State) (f : ProxyCounters → ProxyCounters) : (s.bumpProxy f).settings = s.settings := rfl

@[simp] theorem State.bumpProxy_portStats (s : State) (f : ProxyCounters → ProxyCounters) : (s.bumpProxy f).portStats = s.portStats := rfl

@[simp] theorem State.bumpProxy_dirStats (s : State) (f : ProxyCounters → ProxyCounters) : (s.bumpProxy f).dirStats = s.dirStats := rfl

@[simp] theorem State.bumpProxy_proxyStats (s : State) (f : ProxyCounters → ProxyCounters) : (s.bumpProxy f).proxyStats = f s.proxyStats := rfl

@[simp] theorem State.bumpProxy_agentStats (s : State) (f : ProxyCounters → ProxyCounters) : (s.bumpProxy f).agentStats = s.agentStats := rfl

@[simp] theorem State.bumpProxy_freeCount (s : State) (f : ProxyCounters → ProxyCounters) : (s.bumpProxy f).freeCount = s.freeCount := rfl

@[simp] theorem State.bumpProxy_pending (s : State) (f : ProxyCounters → ProxyCounters) : (s.bumpProxy f).pending = s.pending := rfl

/-! ## bumpAgent -/

@[simp] theorem State.bumpAgent_resetPin (s : State) (f : AgentCounters → AgentCounters) : (s.bumpAgent f).resetPin = s.resetPin := rfl

@[simp] theorem State.bumpAgent_bypassPin (s : State) (f : AgentCounters → AgentCounters) : (s.bumpAgent f).bypassPin = s.bypassPin := rfl

@[simp] theorem State.bumpAgent_rate (s : State) (f : AgentCounters → AgentCounters) : (s.bumpAgent f).rate = s.rate := rfl

@[simp] theorem State.bumpAgent_signal (s : State) (f : AgentCounters → AgentCounters) : (s.bumpAgent f).signal = s.signal := rfl

@[simp] theorem State.bumpAgent_timestamp (s : State) (f : AgentCounters → AgentCounters) : (s.bumpAgent f).timestamp = s.timestamp := rfl

@[simp] theorem State.bumpAgent_divider (s : State) (f : AgentCounters → AgentCounters) : (s.bumpAgent f).divider = s.divider := rfl

@[simp] theorem State.bumpAgent_due (s : State) (f : AgentCounters → AgentCounters) : (s.bumpAgent f).due = s.due := rfl

@[simp] theorem State.bumpAgent_ports (s : State) (f : AgentCounters → AgentCounters) : (s.bumpAgent f).ports = s.ports := rfl

@[simp] theorem State.bumpAgent_rx (s : State) (f : AgentCounters → AgentCounters) : (s.bumpAgent f).rx = s.rx := rfl

@[simp] theorem State.bumpAgent_relay (s : State) (f : AgentCounters → AgentCounters) : (s.bumpAgent f).relay = s.relay := rfl

@[simp] theorem State.bumpAgent_latch (s : State) (f : AgentCounters → AgentCounters) : (s.bumpAgent f).latch = s.latch := rfl

@[simp] theorem State.bumpAgent_settle (s : State) (f : AgentCounters → AgentCounters) : (s.bumpAgent f).settle = s.settle := rfl

@[simp] theorem State.bumpAgent_paths (s : State) (f : AgentCounters → AgentCounters) : (s.bumpAgent f).paths = s.paths := rfl

@[simp] theorem State.bumpAgent_engine (s : State) (f : AgentCounters → AgentCounters) : (s.bumpAgent f).engine = s.engine := rfl

@[simp] theorem State.bumpAgent_slots (s : State) (f : AgentCounters → AgentCounters) : (s.bumpAgent f).slots = s.slots := rfl

@[simp] theorem State.bumpAgent_holdList (s : State) (f : AgentCounters → AgentCounters) : (s.bumpAgent f).holdList = s.holdList := rfl

@[simp] theorem State.bumpAgent_queues (s : State) (f : AgentCounters → AgentCounters) : (s.bumpAgent f).queues = s.queues := rfl

@[simp] theorem State.bumpAgent_ownAddr (s : State) (f : AgentCounters → AgentCounters) : (s.bumpAgent f).ownAddr = s.ownAddr := rfl

@[simp] theorem State.bumpAgent_owner (s : State) (f : AgentCounters → AgentCounters) : (s.bumpAgent f).owner = s.owner := rfl

@[simp] theorem State.bumpAgent_cache (s : State) (f : AgentCounters → AgentCounters) : (s.bumpAgent f).cache = s.cache := rfl

@[simp] theorem State.bumpAgent_inbox (s : State) (f : AgentCounters → AgentCounters) : (s.bumpAgent f).inbox = s.inbox := rfl

@[simp] theorem State.bumpAgent_restartPending (s : State) (f : AgentCounters → AgentCounters) : (s.bumpAgent f).restartPending = s.restartPending := rfl

@[simp] theorem State.bumpAgent_notice (s : State) (f : AgentCounters → AgentCounters) : (s.bumpAgent f).notice = s.notice := rfl

@[simp] theorem State.bumpAgent_settings (s : State) (f : AgentCounters → AgentCounters) : (s.bumpAgent f).settings = s.settings := rfl

@[simp] theorem State.bumpAgent_portStats (s : State) (f : AgentCounters → AgentCounters) : (s.bumpAgent f).portStats = s.portStats := rfl

@[simp] theorem State.bumpAgent_dirStats (s : State) (f : AgentCounters → AgentCounters) : (s.bumpAgent f).dirStats = s.dirStats := rfl

@[simp] theorem State.bumpAgent_proxyStats (s : State) (f : AgentCounters → AgentCounters) : (s.bumpAgent f).proxyStats = s.proxyStats := rfl

@[simp] theorem State.bumpAgent_agentStats (s : State) (f : AgentCounters → AgentCounters) : (s.bumpAgent f).agentStats = f s.agentStats := rfl

@[simp] theorem State.bumpAgent_freeCount (s : State) (f : AgentCounters → AgentCounters) : (s.bumpAgent f).freeCount = s.freeCount := rfl

@[simp] theorem State.bumpAgent_pending (s : State) (f : AgentCounters → AgentCounters) : (s.bumpAgent f).pending = s.pending := rfl

/-! ## setStore -/

@[simp] theorem State.setStore_resetPin (s : State) (d : Dir) (fs : List StoredFrame) : (s.setStore d fs).resetPin = s.resetPin := rfl

@[simp] theorem State.setStore_bypassPin (s : State) (d : Dir) (fs : List StoredFrame) : (s.setStore d fs).bypassPin = s.bypassPin := rfl

@[simp] theorem State.setStore_rate (s : State) (d : Dir) (fs : List StoredFrame) : (s.setStore d fs).rate = s.rate := rfl

@[simp] theorem State.setStore_signal (s : State) (d : Dir) (fs : List StoredFrame) : (s.setStore d fs).signal = s.signal := rfl

@[simp] theorem State.setStore_timestamp (s : State) (d : Dir) (fs : List StoredFrame) : (s.setStore d fs).timestamp = s.timestamp := rfl

@[simp] theorem State.setStore_divider (s : State) (d : Dir) (fs : List StoredFrame) : (s.setStore d fs).divider = s.divider := rfl

@[simp] theorem State.setStore_due (s : State) (d : Dir) (fs : List StoredFrame) : (s.setStore d fs).due = s.due := rfl

@[simp] theorem State.setStore_ports (s : State) (d : Dir) (fs : List StoredFrame) : (s.setStore d fs).ports = s.ports := rfl

@[simp] theorem State.setStore_rx (s : State) (d : Dir) (fs : List StoredFrame) : (s.setStore d fs).rx = s.rx := rfl

@[simp] theorem State.setStore_relay (s : State) (d : Dir) (fs : List StoredFrame) : (s.setStore d fs).relay = s.relay := rfl

@[simp] theorem State.setStore_latch (s : State) (d : Dir) (fs : List StoredFrame) : (s.setStore d fs).latch = s.latch := rfl

@[simp] theorem State.setStore_settle (s : State) (d : Dir) (fs : List StoredFrame) : (s.setStore d fs).settle = s.settle := rfl

@[simp] theorem State.setStore_engine (s : State) (d : Dir) (fs : List StoredFrame) : (s.setStore d fs).engine = s.engine := rfl

@[simp] theorem State.setStore_slots (s : State) (d : Dir) (fs : List StoredFrame) : (s.setStore d fs).slots = s.slots := rfl

@[simp] theorem State.setStore_holdList (s : State) (d : Dir) (fs : List StoredFrame) : (s.setStore d fs).holdList = s.holdList := rfl

@[simp] theorem State.setStore_queues (s : State) (d : Dir) (fs : List StoredFrame) : (s.setStore d fs).queues = s.queues := rfl

@[simp] theorem State.setStore_ownAddr (s : State) (d : Dir) (fs : List StoredFrame) : (s.setStore d fs).ownAddr = s.ownAddr := rfl

@[simp] theorem State.setStore_owner (s : State) (d : Dir) (fs : List StoredFrame) : (s.setStore d fs).owner = s.owner := rfl

@[simp] theorem State.setStore_cache (s : State) (d : Dir) (fs : List StoredFrame) : (s.setStore d fs).cache = s.cache := rfl

@[simp] theorem State.setStore_inbox (s : State) (d : Dir) (fs : List StoredFrame) : (s.setStore d fs).inbox = s.inbox := rfl

@[simp] theorem State.setStore_restartPending (s : State) (d : Dir) (fs : List StoredFrame) : (s.setStore d fs).restartPending = s.restartPending := rfl

@[simp] theorem State.setStore_notice (s : State) (d : Dir) (fs : List StoredFrame) : (s.setStore d fs).notice = s.notice := rfl

@[simp] theorem State.setStore_settings (s : State) (d : Dir) (fs : List StoredFrame) : (s.setStore d fs).settings = s.settings := rfl

@[simp] theorem State.setStore_portStats (s : State) (d : Dir) (fs : List StoredFrame) : (s.setStore d fs).portStats = s.portStats := rfl

@[simp] theorem State.setStore_dirStats (s : State) (d : Dir) (fs : List StoredFrame) : (s.setStore d fs).dirStats = s.dirStats := rfl

@[simp] theorem State.setStore_proxyStats (s : State) (d : Dir) (fs : List StoredFrame) : (s.setStore d fs).proxyStats = s.proxyStats := rfl

@[simp] theorem State.setStore_agentStats (s : State) (d : Dir) (fs : List StoredFrame) : (s.setStore d fs).agentStats = s.agentStats := rfl

@[simp] theorem State.setStore_freeCount (s : State) (d : Dir) (fs : List StoredFrame) : (s.setStore d fs).freeCount = s.freeCount := rfl

@[simp] theorem State.setStore_pending (s : State) (d : Dir) (fs : List StoredFrame) : (s.setStore d fs).pending = s.pending := rfl

theorem State.setStore_paths (s : State) (d : Dir) (fs : List StoredFrame) :
    (s.setStore d fs).paths = s.paths.set d { s.paths.get d with
      store := fs
      highWater := raiseMark (s.paths.get d).highWater (occupancy (s.paths.get d).store) (occupancy fs) } := rfl

end Sys2Proof.Machine
end

