-- ==== Sys2Proof/Laws/Ops.lean ====
section
/-! SUPPORT. What each shared operation can do, said once: its case lemmas, and its frame as one equation that names the fields it
may change. -/

namespace Sys2Proof.Machine

/-! ## Queue entries -/

theorem place_of_room {p : Port} {b : EntryBody} {s : State} (h : (s.queues.get p).occupancy < 16) :
    place p b s = s.setQueue p { s.queues.get p with
      entries := (s.queues.get p).entries ++ [{ body := b, time := s.timestamp }] } := by
  simp [place, Queue.room, h]

theorem place_of_full {p : Port} {b : EntryBody} {s : State} (h : 16 ≤ (s.queues.get p).occupancy) : place p b s = s := by
  simp [place, Queue.room, Nat.not_lt.mpr h]

theorem place_frame (p : Port) (b : EntryBody) (s : State) : place p b s = { s with queues := (place p b s).queues } := by
  unfold place; split <;> rfl

theorem withdrawFrom_frame (t : EntryBody → Bool) (p : Port) (s : State) :
    withdrawFrom t p s
      = { s with queues := (withdrawFrom t p s).queues, dirStats := (withdrawFrom t p s).dirStats } := rfl

theorem withdraw_frame (t : EntryBody → Bool) (s : State) :
    withdraw t s = { s with queues := (withdraw t s).queues, dirStats := (withdraw t s).dirStats } := rfl

/-- R124: each queue keeps the entries that fail the test, in their order, and its held place. -/
@[simp] theorem withdraw_queues_get (t : EntryBody → Bool) (s : State) (p : Port) :
    (withdraw t s).queues.get p
      = { s.queues.get p with entries := (s.queues.get p).entries.filter (fun e => !t e.body) } := by
  cases p <;> rfl

/-- R124: each withdrawn entry is counted in its queue's direction. -/
theorem withdraw_withdrawn (t : EntryBody → Bool) (s : State) (p : Port) :
    ((withdraw t s).dirStats.get (dirOut p)).withdrawn
      = satAdd (s.dirStats.get (dirOut p)).withdrawn ((s.queues.get p).entries.filter (fun e => t e.body)).length := by
  cases p <;> rfl

/-! ## The notice unit -/

theorem offerNotice_of_unowned {s : State} (h : s.owner = none) : offerNotice s = s := by simp [offerNotice, h]

theorem offerNotice_of_not_wanted {s : State} (h : noticeWanted s = false) : offerNotice s = s := by
  unfold offerNotice; split <;> simp [h]

theorem offerNotice_of_wanted {s : State} {o : Owner} (ho : s.owner = some o) (h : noticeWanted s = true) :
    offerNotice s = place o.port .notice s := by
  simp [offerNotice, ho, h]

theorem offerNotice_cases (s : State) : offerNotice s = s ∨ ∃ o, s.owner = some o ∧ offerNotice s = place o.port .notice s := by
  unfold offerNotice
  split
  · exact .inl rfl
  · split
    · exact .inr ⟨_, ‹_›, rfl⟩
    · exact .inl rfl

theorem offerNotice_frame (s : State) : offerNotice s = { s with queues := (offerNotice s).queues } := by
  rcases offerNotice_cases s with h | ⟨o, -, h⟩
  · rw [h]
  · rw [h]; exact place_frame _ _ _

theorem offerNotice_of_relays {s : State} (h : s.relay.relays = false) : offerNotice s = s :=
  offerNotice_of_not_wanted (by simp [noticeWanted, h])

theorem addEvent_frame (bit : BitVec 34) (s : State) :
    addEvent bit s = { s with
      notice := { s.notice with pending := s.notice.pending ||| bit, marks := s.notice.marks ||| bit }
      queues := (addEvent bit s).queues } := by
  unfold addEvent; exact offerNotice_frame _

theorem slotEvent_of_clear {n : Fin 32} {s : State} (h : s.slots[n].notify = false) : slotEvent n s = s := by
  simp only [slotEvent, h]; rfl

theorem slotEvent_of_set {n : Fin 32} {s : State} (h : s.slots[n].notify = true) :
    slotEvent n s = addEvent (slotBit n) s := by
  simp only [slotEvent, h]; rfl

theorem slotEvent_frame (n : Fin 32) (s : State) :
    slotEvent n s = { s with notice := (slotEvent n s).notice, queues := (slotEvent n s).queues } := by
  unfold slotEvent
  split
  · rw [addEvent_frame]
  · rfl

/-! ## Capture slots, holds and commits -/

theorem lapse_of_not_held {n : Fin 32} {s : State} (h : ∀ c o q k, s.slots[n].body ≠ .capture (.held c o q k)) :
    lapse n s = s := by
  unfold lapse
  split
  · exact absurd ‹_› (h _ _ _ _)
  · exact absurd ‹_› (h _ _ _ _)
  · rfl

theorem lapse_of_held {n : Fin 32} {s : State} {c : CapturedRecord} {o : Bool} {k : Nat}
    (h : s.slots[n].body = .capture (.held c o none k)) :
    lapse n s = slotEvent n { s.setSlot n { s.slots[n] with body := .capture (.full c o) } with
      holdList := s.holdList.filter (fun m => decide (m ≠ n)) } := by
  unfold lapse; rw [h]

theorem lapse_of_held_pending {n : Fin 32} {s : State} {c r : CapturedRecord} {o : Bool} {k : Nat}
    (h : s.slots[n].body = .capture (.held c o (some r) k)) :
    lapse n s = slotEvent n { s.setSlot n { s.slots[n] with
        body := .capture (.full r true), count := satInc s.slots[n].count } with
      holdList := s.holdList.filter (fun m => decide (m ≠ n)) } := by
  unfold lapse; rw [h]

theorem lapse_frame (n : Fin 32) (s : State) :
    lapse n s = { s with
      slots := (lapse n s).slots, holdList := (lapse n s).holdList, notice := (lapse n s).notice
      queues := (lapse n s).queues } := by
  unfold lapse
  split
  · rw [slotEvent_frame]; rfl
  · rw [slotEvent_frame]; rfl
  · rfl

theorem lapse_slots_of_ne {n m : Fin 32} (s : State) (h : m ≠ n) : (lapse n s).slots[m] = s.slots[m] := by
  have hv : n.val ≠ m.val := fun he => h (Fin.ext he.symm)
  unfold lapse
  split
  · rw [slotEvent_frame]; exact Vector.getElem_set_ne n.isLt m.isLt hv
  · rw [slotEvent_frame]; exact Vector.getElem_set_ne n.isLt m.isLt hv
  · rfl

theorem foldl_lapse_frame (l : List (Fin 32)) (s : State) :
    l.foldl (fun t n => lapse n t) s = { s with
      slots := (l.foldl (fun t n => lapse n t) s).slots, holdList := (l.foldl (fun t n => lapse n t) s).holdList
      notice := (l.foldl (fun t n => lapse n t) s).notice, queues := (l.foldl (fun t n => lapse n t) s).queues } := by
  induction l generalizing s with
  | nil => rfl
  | cons n l ih => rw [List.foldl_cons, ih, lapse_frame]

theorem lapseAll_frame (s : State) :
    lapseAll s = { s with
      slots := (lapseAll s).slots, holdList := [], notice := (lapseAll s).notice, queues := (lapseAll s).queues } := by
  unfold lapseAll; rw [foldl_lapse_frame]

theorem captureCommit_frame (n : Fin 32) (r : CapturedRecord) (s : State) :
    captureCommit n r s = { s with
      slots := (captureCommit n r s).slots, notice := (captureCommit n r s).notice
      queues := (captureCommit n r s).queues } := by
  unfold captureCommit
  split
  iterate 4 (rw [slotEvent_frame]; rfl)
  rfl

theorem learnCommit_frame (n : Fin 32) (payload : List Byte) (aux : Byte) (s : State) :
    learnCommit n payload aux s = { s with
      slots := (learnCommit n payload aux s).slots, notice := (learnCommit n payload aux s).notice
      queues := (learnCommit n payload aux s).queues, proxyStats := (learnCommit n payload aux s).proxyStats } := by
  unfold learnCommit
  split
  · rw [slotEvent_frame]; rfl
  · rfl

/-! ## Relay state, latch and owner -/

theorem enterRelay_frame (s : State) :
    enterRelay s = { s with
      relay := .relay, settle := none, slots := mapVec startStoppedBeacon s.slots, queues := (enterRelay s).queues } := by
  unfold enterRelay; exact offerNotice_frame _

theorem enterFallback_frame (s : State) :
    enterFallback s = { s with relay := .fallback, settle := none, queues := (enterFallback s).queues } := by
  unfold enterFallback; exact offerNotice_frame _

theorem relayToFallback_frame (s : State) :
    relayToFallback s = { s with
      relay := .fallback, queues := (relayToFallback s).queues, dirStats := (withdraw EntryBody.hasSlot s).dirStats } := by
  unfold relayToFallback
  refine (offerNotice_frame _).trans ?_
  generalize (offerNotice _).queues = q
  exact congrArg (fun u : State => { u with relay := .fallback, queues := q }) (withdraw_frame EntryBody.hasSlot s)

theorem clearOwner_frame (s : State) :
    clearOwner s = { s with
      owner := none, slots := (lapseAll { s with owner := none }).slots, holdList := []
      notice := (lapseAll { s with owner := none }).notice, queues := (clearOwner s).queues
      dirStats := (clearOwner s).dirStats } := by
  exact (withdraw_frame _ _).trans (congrArg
    (fun u : State => { u with queues := (clearOwner s).queues, dirStats := (clearOwner s).dirStats }) (lapseAll_frame _))

/-- R169: the restart begins where its reply is gone, and otherwise nothing happens. -/
theorem settleRestart_cases (s : State) :
    restartDue s = false ∧ settleRestart s = s ∨ restartDue s = true ∧ settleRestart s = restartBegin s := by
  unfold settleRestart
  cases h : restartDue s
  · exact .inl ⟨rfl, rfl⟩
  · exact .inr ⟨rfl, rfl⟩

theorem settleRestart_of_not_due {s : State} (h : restartDue s = false) : settleRestart s = s := by simp [settleRestart, h]

theorem restartDue_of_not_pending {s : State} (h : s.restartPending = false) : restartDue s = false := by simp [restartDue, h]

theorem restartDue_restartBegin (s : State) : restartDue (restartBegin s) = false := rfl

/-! ## Joining -/

theorem joinCheck_cases (s : State) :
    joinReady s = false ∧ joinCheck s = s
    ∨ joinReady s = true ∧ joinCheck s = { s with relay := .joining, bypassPin := false, settle := some 2 } := by
  unfold joinCheck
  cases h : joinReady s
  · exact .inl ⟨rfl, rfl⟩
  · exact .inr ⟨rfl, rfl⟩

theorem joinCheck_of_relay {s : State} (h : s.relay ≠ .bypass) : joinCheck s = s := by simp [joinCheck, joinReady, h]

/-- R28: entry to BYPASS empties both queues. -/
theorem enterBypass_queues (s : State) (p : Port) : (enterBypass s).queues.get p = { entries := [], held := false } := by
  cases p <;> rfl

/-- R28: entry to BYPASS empties both detour stores and abandons both decision records. -/
theorem enterBypass_paths (s : State) (d : Dir) :
    ((enterBypass s).paths.get d).store = [] ∧ ((enterBypass s).paths.get d).flight = none := by
  cases d <;> exact ⟨rfl, rfl⟩

/-! ## Small values -/

theorem raiseMark_le {mark old new : Nat} (h : mark ≤ 96) : raiseMark mark old new ≤ 96 := by
  unfold raiseMark; split <;> omega

theorem satAdd_zero {w : Nat} (x : BitVec w) : satAdd x 0 = x := by
  have := x.isLt
  apply BitVec.eq_of_toNat_eq
  simp only [satAdd, Nat.add_zero, BitVec.toNat_ofNat]
  rw [Nat.min_eq_left (by omega), Nat.mod_eq_of_lt this]

@[simp] theorem slotOfByte_slotByte (n : Fin 32) : slotOfByte (slotByte n) = some n := by
  revert n; decide

@[simp] theorem indexOfByte_indexByte (i : Fin 64) : indexOfByte (indexByte i) = some i := by
  revert i; decide

/-! ## Selection (R122) -/

/-- What takeFirst takes: the first item that passes the test, the others in their order. -/
theorem takeFirst_some {α : Type} {p : α → Bool} {l rest : List α} {x : α} (h : takeFirst p l = some (x, rest)) :
    ∃ pre post, l = pre ++ x :: post ∧ rest = pre ++ post ∧ p x = true ∧ ∀ y ∈ pre, p y = false := by
  induction l generalizing rest with
  | nil => cases h
  | cons z l ih =>
    unfold takeFirst at h
    split at h
    · cases h
      exact ⟨[], l, rfl, rfl, ‹_›, fun _ hy => by cases hy⟩
    · split at h
      · cases h
        obtain ⟨pre, post, h1, h2, h3, h4⟩ := ih ‹_›
        refine ⟨z :: pre, post, by rw [h1]; rfl, by rw [h2]; rfl, h3, fun y hy => ?_⟩
        rcases List.mem_cons.mp hy with rfl | hy
        · exact Bool.eq_false_iff.mpr ‹¬_›
        · exact h4 y hy
      · cases h

theorem takeFirst_none {α : Type} {p : α → Bool} {l : List α} : takeFirst p l = none ↔ ∀ y ∈ l, p y = false := by
  induction l with
  | nil => simp [takeFirst]
  | cons z l ih =>
    unfold takeFirst
    by_cases hz : p z = true
    · simp [hz]
    · cases hl : takeFirst p l with
      | none => simpa [hz] using ih.mp hl
      | some x =>
        have : ¬∀ y ∈ l, p y = false := fun hn => by rw [ih.mpr hn] at hl; cases hl
        simpa [hz] using this

/-! ## The ticks -/

theorem takeTick1_of_not_due {s : State} (h : s.due.one = false) : takeTick1 s = s := by simp [takeTick1, h]

theorem takeTick10_of_not_due {s : State} (h : s.due.ten = false) : takeTick10 s = s := by simp [takeTick10, h]

theorem takeTick100_of_not_due {s : State} (h : s.due.hundred = false) : takeTick100 s = s := by simp [takeTick100, h]

theorem takeTick1_of_due {s : State} (h : s.due.one = true) :
    takeTick1 s = settleRestart (tick1ms { s with due := { s.due with one := false } }) := by simp [takeTick1, h]

theorem takeTick10_of_due {s : State} (h : s.due.ten = true) :
    takeTick10 s = tick10ms { s with due := { s.due with ten := false } } := by simp [takeTick10, h]

theorem takeTick100_of_due {s : State} (h : s.due.hundred = true) :
    takeTick100 s = tick100ms { s with due := { s.due with hundred := false } } := by simp [takeTick100, h]

/-- R34: where no tick is due, a microsecond counts and does nothing else. -/
theorem advanceTime_of_none_due {s : State} (h : s.due = .none) : advanceTime s = countMicrosecond s := by
  rw [advanceTime, takeTick1_of_not_due (by rw [h]; rfl), takeTick10_of_not_due (by rw [h]; rfl),
    takeTick100_of_not_due (by rw [h]; rfl)]

/-- R34: a tick is due after a microsecond only at a position of the divider that brings it. -/
theorem countMicrosecond_due (s : State) : (countMicrosecond s).due = ticksAt (countMicrosecond s).divider := rfl

theorem restartBegin_due (s : State) : (restartBegin s).due = s.due := rfl

theorem settleRestart_due (s : State) : (settleRestart s).due = s.due := by unfold settleRestart; split <;> rfl

/-! ## The newest frame of a detour store -/

/-- R43: an end mark adds no frame. -/
theorem pushMark_length (m : EndMark) : ∀ fs : List StoredFrame, (pushMark m fs).length = fs.length
  | [] => rfl
  | [_] => rfl
  | _ :: g :: fs => by simp [pushMark, pushMark_length m (g :: fs)]

/-- R35, R43: the end mark joins the newest frame. -/
theorem pushMark_append (m : EndMark) (x : StoredFrame) :
    ∀ fs : List StoredFrame, pushMark m (fs ++ [x]) = fs ++ [{ x with mark := some m }]
  | [] => rfl
  | [_] => rfl
  | f :: g :: fs => congrArg (f :: ·) (pushMark_append m x (g :: fs))

/-- R35: a data byte joins the newest frame. -/
theorem pushByte_append (b : Byte) (x : StoredFrame) :
    ∀ fs : List StoredFrame, pushByte b (fs ++ [x]) = fs ++ [{ x with bytes := x.bytes ++ [b] }]
  | [] => rfl
  | [_] => rfl
  | f :: g :: fs => congrArg (f :: ·) (pushByte_append b x (g :: fs))

/-! ## Age-out, and commands one after another -/

theorem isFrom_notice (b : EntryBody) : b.isFrom .notice = decide (b = .notice) := by
  cases b <;> simp [EntryBody.isFrom, EntryBody.source]

/-- R123, R173: the age-out of both queues at a tick is the one the statements speak of. -/
theorem ageOutBoth_eq_agedOut (s : State) : ageOutBoth s = agedOut s := by
  simp only [ageOutBoth, agedOut, noticeOverAge, List.any_append, isFrom_notice]
  rfl

/-- R123: an age-out changes the queues and their directions' counts. -/
theorem ageOut_frame (p : Port) (s : State) :
    ageOut p s = { s with queues := (ageOut p s).queues, dirStats := (ageOut p s).dirStats } := by
  unfold ageOut
  split
  · rw [offerNotice_frame]; rfl
  · rfl

theorem agedOut_frame (s : State) :
    agedOut s = { s with queues := (agedOut s).queues, dirStats := (agedOut s).dirStats } := by
  unfold agedOut
  simp only
  split
  · rw [offerNotice_frame]
  · rfl

/-- R170: what the queues held and the directions counted is nothing to a restart. -/
theorem restartBegin_queues (s : State) (q : PerPort Queue) (c : PerDir DirCounters) :
    restartBegin { s with queues := q, dirStats := c } = restartBegin s := rfl

@[simp] theorem ran_nil (s : State) : ran [] s = s := rfl

theorem ran_cons_of_next {c : Instr} {cs : List Instr} {s t : State} (h : exec c s = .next t) : ran (c :: cs) s = ran cs t := by
  simp [ran, h]

end Sys2Proof.Machine
end

