-- ==== Sys2Proof/WellFormed.lean ====
section
/-! DEFINITION. Which commands stand for something that can cross the line: an MGMT payload is 1..60 bytes (R3), so the bytes
after the request code are at most 59. Nothing in the machine rests on this check: every command has a meaning. -/

namespace Sys2Proof

/-- The request rows whose operand is a list of parameter bytes: that list. -/
def Instr.params : Instr → List Byte
  | .resetAssert => []
  | .resetRelease _ => []
  | .signalPresent _ => []
  | .lossOfSignal _ => []
  | .receiveSof _ => []
  | .receiveDataByte _ _ => []
  | .receiveEof _ => []
  | .receiveAbort _ => []
  | .receiveIdle _ => []
  | .codeError _ => []
  | .coolDownExpiry _ => []
  | .joinSettleExpiry => []
  | .throughFrameStart _ => []
  | .transmitSymbol _ => []
  | .moveOutAnswer _ => []
  | .moveOutMreply _ => []
  | .moveOutNotice _ => []
  | .moveOutAssign _ => []
  | .moveOutBeacon _ => []
  | .tick1ms => []
  | .queueAgeOut _ => []
  | .beaconExpiry _ => []
  | .tick10ms => []
  | .holdTimerExpiry _ => []
  | .noticeRepeatExpiry => []
  | .tick100ms => []
  | .leaseExpiry => []
  | .bankCopyAdvance => []
  | .bankCopyComplete => []
  | .ident _ ps => ps
  | .claim _ ps => ps
  | .renounce _ ps => ps
  | .settingsRead _ ps => ps
  | .settingsWrite _ ps => ps
  | .entryRead _ ps => ps
  | .entryWrite _ ps => ps
  | .entryClear _ ps => ps
  | .bankCopy _ ps => ps
  | .bankSwap _ ps => ps
  | .slotSetup _ ps => ps
  | .slotLoad _ ps => ps
  | .slotReadWithoutHold _ _ => []
  | .slotReadWithHold _ _ => []
  | .slotRelease _ ps => ps
  | .noticeAck _ ps => ps
  | .statsReadWithoutClear _ _ => []
  | .statsReadWithClear _ _ => []
  | .restart _ ps => ps
  | .unknownRequest _ _ ps => ps
  | .assign _ _ => []
  | .restartBegin => []
  | .timestampCounterAdvance => []

/-- R3: an MGMT payload is at most 60 bytes, the request code among them. -/
def Instr.wellFormed (i : Instr) : Bool := decide (i.params.length ≤ 59)

end Sys2Proof
end

