-- ==== Sys2Proof/Tests/Slice0.lean ====
section
/-! SUPPORT. Checks of the model on small states: well-formedness, worked values of the manual, one or two steps of each family of
commands, and for each statement with hypotheses a named state that meets them. Expected values are the manual's or worked from it
by hand. -/

namespace Sys2Proof.Tests

open Sys2Proof.Machine

/-! ## Small states -/

/-- RESET released on a dark line: both ports DOWN, BYPASS. -/
def dark : State := { State.reset with resetPin := false }

/-- A port in a state, its bucket as given. -/
def portIn (x : PortState) (bucket : Nat) : PortBlock := { state := x, syncIdle := 0, bucket := bucket, coolDown := none }

/-- Both ports SYNCED, in a relay state. -/
def lineIn (r : RelayState) : State :=
  { dark with bypassPin := decide (r = .bypass), signal := ⟨true, true⟩, ports := ⟨portIn .synced 0, portIn .synced 0⟩,
              relay := r, settle := if r = .joining then some 2 else none, latch := decide (r = .fallback) }

/-- RELAY without an owner. -/
def live : State := lineIn .relay

/-- The divider at a multiple of 100 ms: one tick of each kind has fallen and none is taken. -/
def atTick (s : State) : State := { s with divider := 0, due := { one := true, ten := true, hundred := true } }

/-- RELAY with manager 5 as owner through Port A. -/
def owned : State := { live with owner := some { addr := 5, lease := 600, policy := .keep, port := .a } }

/-- A request of manager 5 from Port A with seq 1. -/
def req : Envelope := { port := .a, src := 5, seq := 1, copy := false }

/-- A request of manager 6, which owns nothing. -/
def other : Envelope := { port := .a, src := 6, seq := 1, copy := false }

/-- A receiver in HEADER with bytes received. -/
def inHeader (bs : List Byte) : Receiver := { Receiver.reset with delim := .header, header := bs, byteCount := bs.length }

/-- A receiver in BODY of a frame with payload length len, at a byte count, the check bytes in agreement. -/
def inBody (len : Byte) (count : Nat) : Receiver :=
  { Receiver.reset with delim := .body, header := [0x10, 9, 3, 7, 0, 0, len, 0], byteCount := count, check := 0x1D0F,
                        checkBytes := [0x1D, 0x0F] }

/-- Seven header bytes of a frame of the given first byte, from station 3 to station 9. -/
def seven (kind len : Byte) : List Byte := [kind, 9, 3, 7, 0x12, 0x34, len]

/-- A slot with its notify flag clear and a body. -/
def slotWith (b : SlotBody) : Slot := { Slot.reset with body := b }

/-- An entry for every kind and tag with an action and slot 4. -/
def entryFor (a : Action) (slot : Option (Fin 32)) : Entry :=
  { Entry.cleared with valid := true, kData := true, kPoll := true, kAnswer := true, action := a, slot := slot }

/-- A state whose entry 0 of the active bank is as given. -/
def withEntry (e : Entry) (s : State) : State :=
  { s with engine := { s.engine with bank0 := s.engine.bank0.set 0 e } }

/-- A record in flight with a decision. -/
def flying (v : Verdict) (c : Commit) : InFlight :=
  { header := headerOf (seven 0x10 0 ++ [0]), sofTime := 0,
    decision := { verdict := v, entry := .entry 0, commit := c, slot := some (4, 0), agentCopy := false }, buffer := [] }

/-- RELAY at the end of a frame with an empty payload from Port A, its record in flight. -/
def ending (v : Verdict) (c : Commit) : State :=
  { live with rx := ⟨inBody 0 10, .reset⟩
              paths := ⟨{ RelayPath.reset with
                store := if v = .forward then [{ bytes := [1, 2], mark := none }] else [], flight := some (flying v c) }, .reset⟩ }

/-- A captured record. -/
def record (tag : Half) : CapturedRecord :=
  { header := { (headerOf []) with tag := tag }, payload := [], sofTime := 0, port := .a, entry := 0 }

/-- A queue of entries. -/
def queueOf (bs : List EntryBody) : Queue := { entries := bs.map (fun b => { body := b, time := 0 }), held := false }

/-- An ANSWER entry of slot 4 for a poll of station 3 with seq 7. -/
def answerEntry (ready : Bool) : EntryBody := .answer 4 0 ready 3 9 7 0x1234

/-- An answer slot with a fresh loaded payload. -/
def answerSlot : AnswerSlot := { maxAge := 0, content := .loaded [0xAB], age := 37 }

/-- A beacon slot on Port A, its timer as given. -/
def beaconSlot (timer : Option Nat) : BeaconSlot :=
  { tag := 0x0102, dest := 255, ports := .a, interval := 20, payload := [7], seq := 255, timer := timer }

/-! ## Well-formedness and worked values -/

theorem test_wellFormed_accepts_59_parameters : (Instr.slotLoad req (List.replicate 59 0)).wellFormed = true := by
  simp [Instr.wellFormed, Instr.params]

theorem test_wellFormed_refuses_60_parameters : (Instr.slotLoad req (List.replicate 60 0)).wellFormed = false := by
  simp [Instr.wellFormed, Instr.params]

/-- R7: the check of the nine characters 1 to 9 is 29B1H. -/
theorem test_frameCheck_of_nine_digits :
    frameCheck [0x31, 0x32, 0x33, 0x34, 0x35, 0x36, 0x37, 0x38, 0x39] = 0x29B1 := by decide +kernel

theorem test_table_gives_no_bits : decodeTableWord 8 0x10 = none := rfl

theorem test_noproxy_poll_begins_21H : kindOf 0x21 = .poll ∧ noproxy (headerOf (seven 0x21 0)) = true := by decide

theorem test_withFetchWord_leaves_state : State.reset.withFetchWord 8 0 = State.reset := rfl

theorem test_step_idles : step live = .next live := rfl

theorem test_step_takes_front :
    (match step { live with pending := [.timestampCounterAdvance, .tick1ms] } with
      | .next t => (t.timestamp, t.pending)
      | _ => (0, [])) = (1, [.tick1ms]) := by decide

/-! ## One step -/

/-- The state after a command, or the state itself. -/
def after (c : Instr) (s : State) : State :=
  match exec c s with
  | .next t => t
  | _ => s

/-- The payload of the newest reply in the queue of Port A. -/
def reply (s : State) : List Byte :=
  match s.queues.a.entries.getLast? with
  | some { body := .mreply _ _ _ payload _, time := _ } => payload
  | _ => []

theorem test_reset_assert_clears_owner : (after .resetAssert owned).owner = none := by decide

theorem test_reset_release_syncs_lit_port :
    (after (.resetRelease 2) { State.reset with signal := ⟨true, false⟩ }).ports = ⟨portIn .syncing 0, portIn .down 0⟩ := by
  decide

theorem test_signal_present : (after (.signalPresent .b) dark).notice.pending = 0x200000000 := by decide

theorem test_loss_of_signal_leaves_line : (after (.lossOfSignal .a) live).relay = .bypass := by decide

theorem test_short_gap_sof : ((after (.receiveSof .a) { live with rx := ⟨{ Receiver.reset with gapCount := 1 }, .reset⟩ }).rx.a).shortGap
    = true := by decide

theorem test_data_len_33_is_length :
    (after (.receiveDataByte .a 0) { live with rx := ⟨inHeader (seven 0x10 33), .reset⟩ }).portStats.a.length = 1 := by decide

theorem test_data_len_32_is_forwarded :
    ((after (.receiveDataByte .a 0) { live with rx := ⟨inHeader (seven 0x10 32), .reset⟩ }).paths.ab.store.map (·.bytes))
      = [[0x10, 9, 3, 7, 0x12, 0x34, 32, 0]] := by decide

theorem test_good_eof : (after (.receiveEof .a) { live with rx := ⟨inBody 0 10, .reset⟩ }).portStats.a.good = 1 := by decide

theorem test_early_abort_fills_bucket : (after (.receiveAbort .a) (ending .forward .none)).ports.a.bucket = 1 := by decide

theorem test_idle_in_gap_counts :
    ((after (.receiveIdle .a) { live with rx := ⟨{ Receiver.reset with gapCount := 0 }, .reset⟩ }).rx.a).gapCount = 1 := by decide

theorem test_bucket_limit_faults :
    (after (.codeError .a) { live with ports := ⟨portIn .synced 15, portIn .synced 0⟩ }).ports.a
      = { state := .fault, syncIdle := 0, bucket := 0, coolDown := some 51 } := by decide

theorem test_cool_down_expiry :
    (after (.coolDownExpiry .b) { dark with ports := ⟨portIn .down 0, { portIn .fault 0 with coolDown := some 3 }⟩ }).ports.b.state
      = .down := by decide

theorem test_settle_under_latch : (after .joinSettleExpiry { lineIn .joining with latch := true }).relay = .fallback := by decide

theorem test_through_start :
    (after (.throughFrameStart .b) (ending .forward .none)).paths.ab.tx = .through false := by decide

theorem test_transmit_idle_in_gap :
    (after (.transmitSymbol .a) { live with paths := ⟨.reset, { RelayPath.reset with tx := .between 1 }⟩ }).paths.ba
      = { RelayPath.reset with line := some .idle } := by decide

/-- R111: an age of 37 ms is sent as 3. -/
theorem test_answer_aux :
    (match (after (.moveOutAnswer .a) { live with
        slots := live.slots.set 4 (slotWith (.answer answerSlot)), queues := ⟨queueOf [answerEntry true], queueOf []⟩ }).paths.ba.tx with
      | .injection _ bytes _ => bytes.take 9
      | _ => []) = [0x30, 3, 9, 7, 0x12, 0x34, 1, 3, 0xAB] := by decide

theorem test_reply_begins_90H :
    (match (after (.moveOutMreply .b) { live with queues := ⟨queueOf [], queueOf [.mreply 5 2 1 [0x03, 0] false]⟩ }).paths.ab.tx with
      | .injection _ bytes _ => bytes.take 10
      | _ => []) = [0x90, 5, 2, 1, 0, 0, 2, 0, 0x03, 0] := by decide

theorem test_notice_move_out_clears_marks :
    (after (.moveOutNotice .a) { owned with
      queues := ⟨queueOf [.notice], queueOf []⟩
      notice := { NoticeUnit.reset with pending := 3, marks := 1 } }).notice
      = { pending := 3, marks := 0, number := 1, repeatTimer := some 10 } := by decide

theorem test_assign_move_out :
    (match (after (.moveOutAssign .b) { live with queues := ⟨queueOf [], queueOf [.assign 8]⟩ }).paths.ab.tx with
      | .injection _ bytes _ => bytes.take 9
      | _ => []) = [0xA0, 255, 0, 0, 0, 0, 1, 0, 8] := by decide

/-- R132: the beacon seq wraps from 255 to 0. -/
theorem test_beacon_move_out_wraps_seq :
    (after (.moveOutBeacon .a) { live with
      slots := live.slots.set 4 (slotWith (.beacon (beaconSlot (some 5)))), queues := ⟨queueOf [.beacon 4], queueOf []⟩ }).slots[4].body
      = .beacon { beaconSlot (some 5) with seq := 0 } := by decide

theorem test_tick_drains_bucket :
    (after .tick1ms (atTick { live with ports := ⟨portIn .synced 3, portIn .synced 0⟩ })).ports
      = ⟨portIn .synced 2, portIn .synced 0⟩ := by decide

theorem test_tick_not_due_is_none : after .tick1ms owned = owned := rfl

/-- R123: an entry of exactly the limit stays, one microsecond more leaves. -/
theorem test_age_out_limit :
    ((after (.queueAgeOut .a) { live with queues := ⟨queueOf [.assign 1], queueOf []⟩, timestamp := 500000 }).queues.a.entries.length,
     (after (.queueAgeOut .a) { live with queues := ⟨queueOf [.assign 1], queueOf []⟩, timestamp := 500001 }).queues.a.entries.length)
      = (1, 0) := by decide

theorem test_late_beacon_is_counted :
    (after (.beaconExpiry 4) { lineIn .bypass with
      slots := live.slots.set 4 (slotWith (.beacon { beaconSlot (some 1) with ports := .both })) }).slots[4].count = 2 := by decide

theorem test_lapse_with_pending :
    (after (.holdTimerExpiry 4) { owned with
      slots := live.slots.set 4 (slotWith (.capture (.held (record 1) false (some (record 2)) 1))), holdList := [4] }).slots[4]
      = { Slot.reset with count := 1, body := .capture (.full (record 2) true) } := by decide

theorem test_tick10_lapses :
    (after .tick10ms (atTick { owned with
      slots := live.slots.set 4 (slotWith (.capture (.held (record 1) false none 1))), holdList := [4] })).holdList = [] := by decide

theorem test_repeat_expiry_offers_notice :
    (after .noticeRepeatExpiry { owned with notice := { NoticeUnit.reset with pending := 1, repeatTimer := some 1 } }).queues.a.entries
      = [{ body := .notice, time := 0 }] := by decide

theorem test_tick100_counts_lease : (after .tick100ms (atTick owned)).owner.map (·.lease) = some 599 := by decide

theorem test_lease_expiry_fallback :
    (after .leaseExpiry { owned with owner := some { addr := 5, lease := 1, policy := .fallback, port := .a } }).relay = .fallback := by
  decide

theorem test_copy_advance :
    (after .bankCopyAdvance { owned with engine := { MatchEngine.reset with copy := .running 3 .a 5 1 } }).engine.copy
      = .running 4 .a 5 1 := by decide

theorem test_copy_complete_answers :
    reply (after .bankCopyComplete { owned with
      engine := { MatchEngine.reset with copy := .running 64 .a 5 1, stagingGen := 0xFFFF }, queues := ⟨⟨[], true⟩, ⟨[], false⟩⟩ })
      = [0x13, 0, 0, 0] := by decide

theorem test_ident_reply : reply (after (.ident other []) owned)
    = [1, 0, 0x0A, 0x32, 1, 0, 0, 2, 0, 2, 2, 5, 2, 0x58, 0, 0, 0, 0, 0, 0, 0] := by decide

theorem test_claim_lease_601 : reply (after (.claim req [0x02, 0x59, 0]) live) = [2, 4] := by decide

theorem test_claim_other_owner : reply (after (.claim other [0, 1, 0]) owned) = [2, 2, 5, 2, 0x58] := by decide

theorem test_renounce : (after (.renounce req []) owned).owner = none := by decide

theorem test_settings_read : reply (after (.settingsRead other []) owned) = [4, 0, 0, 0, 16, 16, 50, 10, 0x01, 0xF4] := by decide

theorem test_settings_write_faults : reply (after (.settingsWrite req [2, 0, 3, 16, 0, 1, 0, 0]) owned) = [5, 4, 0x55] := by decide

theorem test_entry_read_cleared : reply (after (.entryRead other [1, 63]) owned)
    = [0x10, 0, 1, 0, 2] ++ List.replicate 18 0 := by decide

theorem test_entry_write_bad_entry : reply (after (.entryWrite req [0, 1, 0, 1, 0, 0, 0, 0, 0, 0, 0, 2, 0]) owned) = [0x11, 5] := by
  decide

theorem test_entry_clear_all : reply (after (.entryClear req [0xFF]) owned) = [0x12, 0, 0, 1] := by decide

theorem test_entry_clear_index_64 : reply (after (.entryClear req [64]) owned) = [0x12, 4] := by decide

theorem test_bank_copy_keeps_place : (after (.bankCopy req []) owned).queues.a = { entries := [], held := true } := by decide

theorem test_bank_swap_stale : reply (after (.bankSwap req [0, 1]) owned) = [0x14, 8, 0, 0] := by decide

theorem test_bank_swap : (after (.bankSwap req [0, 0]) owned).engine.selector = .one := by decide

theorem test_slot_setup_beacon : reply (after (.slotSetup req [4, 3, 1, 1, 2, 0, 0, 20]) owned) = [0x20, 0, 4, 3, 1] := by decide

theorem test_slot_load_33_bytes :
    reply (after (.slotLoad req (4 :: List.replicate 33 0)) { owned with slots := live.slots.set 4 (slotWith (.answer answerSlot)) })
      = [0x21, 4] := by decide

theorem test_slot_read_unused : reply (after (.slotReadWithoutHold other 31) owned) = [0x22, 0, 31, 0, 0, 0, 0, 0] := by decide

theorem test_hold_read :
    (after (.slotReadWithHold req 4) { owned with slots := live.slots.set 4 (slotWith (.capture (.full (record 1) true))) }).slots[4].body
      = .capture (.held (record 1) true none 50) := by decide

theorem test_release_not_held :
    reply (after (.slotRelease req [4]) { owned with slots := live.slots.set 4 (slotWith (.capture .empty)) }) = [0x23, 0x0B, 4, 0] := by
  decide

theorem test_notice_ack_keeps_marked :
    reply (after (.noticeAck req [0, 0, 0, 0, 3]) { owned with
      notice := { NoticeUnit.reset with pending := 3, marks := 1, repeatTimer := some 1 } }) = [0x30, 0, 0, 0, 0, 0, 1] := by decide

theorem test_stats_read_agent :
    reply (after (.statsReadWithoutClear other 5) { owned with agentStats := { AgentCounters.zero with executed := 0x01020304 } })
      = [0x31, 0, 5] ++ bytes32 0x01020304 ++ List.replicate 20 0 := by decide

theorem test_stats_clear :
    (after (.statsReadWithClear req 5) { owned with agentStats := { AgentCounters.zero with refused := 9 } }).agentStats
      = { AgentCounters.zero with executed := 1 } := by decide

theorem test_restart_waits : (after (.restart req []) owned).restartPending = true := by decide

theorem test_code_80H_is_refused : reply (after (.unknownRequest req 0x80 []) owned) = [0x80, 3] := by decide

theorem test_assign_254_goes_on_as_255 :
    ((after (.assign .a 254) live).ownAddr, (after (.assign .a 254) live).queues.b.entries)
      = (254, [{ body := .assign 255, time := 0 }]) := by decide

theorem test_restart_keeps_loaded_payload :
    (after .restartBegin { owned with restartPending := true, slots := live.slots.set 4 (slotWith (.answer answerSlot)) }).slots[4].body
      = .answer { answerSlot with age := 0 } := by decide

/-- R33, R34: the timestamp wraps, and a tick no row has taken counts as the next microsecond begins. -/
theorem test_timestamp_wraps :
    (let t := after .timestampCounterAdvance (atTick { owned with timestamp := 0xFFFFFFFF });
      (t.timestamp, t.divider, t.due, t.owner.map (·.lease))) = (0, 1, .none, some 599) := by decide

/-- R34: the first 1 ms tick falls 1000 µs after the release, the first 10 ms tick at the tenth of them. -/
theorem test_ticks_fall_by_the_divider :
    ((after .timestampCounterAdvance { live with divider := 998 }).due, (after .timestampCounterAdvance { live with divider := 999 }).due,
      (after .timestampCounterAdvance { live with divider := 9999 }).due)
      = (.none, { one := true, ten := false, hundred := false }, { one := true, ten := true, hundred := false }) := by decide

/-! ## Witnesses: states that meet the hypotheses of the statements -/

/-- A SYNCING port with a sync idle count, the other SYNCED. -/
def syncingAt (n : Nat) : State :=
  { dark with ports := ⟨{ portIn .syncing 0 with syncIdle := n }, portIn .synced 0⟩ }

/-- Port A in FAULT with its cool-down running, Port B SYNCED. -/
def faulted : State := { dark with ports := ⟨{ portIn .fault 0 with coolDown := some 1 }, portIn .synced 0⟩ }

/-- A live line with Port A's bucket at a value. -/
def bucketAt (n : Nat) (s : State) : State := { s with ports := ⟨portIn .synced n, s.ports.b⟩ }

/-- Port A's receiver replaced. -/
def hearing (r : Receiver) (s : State) : State := { s with rx := ⟨r, .reset⟩ }

/-- The header completed by a last aux byte 0. -/
def headOf (kind len : Byte) : Header := headerOf (seven kind len ++ [0])

/-- RELAY with entry 0 as given and slot 4 of a body, Port A at the last header byte of a frame. -/
def deciding (kind : Byte) (e : Entry) (b : SlotBody) : State :=
  withEntry e { hearing (inHeader (seven kind 0)) live with slots := live.slots.set 4 (slotWith b) }

/-- Port A's output in a state, with a detour store, and a queue. -/
def sending (tx : Tx) (store : List StoredFrame) (q : Queue) (s : State) : State :=
  { s with paths := ⟨s.paths.ab, { RelayPath.reset with tx := tx, store := store }⟩, queues := ⟨q, s.queues.b⟩ }

/-- Slot 4 of a body. -/
def slot4 (b : SlotBody) (s : State) : State := { s with slots := s.slots.set 4 (slotWith b) }

theorem witness_ResetTakesAndReleasesThePart :
    (State.reset.resetPin = true ∧ State.reset.relay = .bypass) ∧ live.resetPin = false := by decide

theorem witness_ResetHoldsThePart :
    State.reset.resetPin = true ∧ Instr.tick1ms ≠ .resetAssert ∧ (∀ x, Instr.tick1ms ≠ .resetRelease x)
    ∧ (∀ p, Instr.tick1ms ≠ .signalPresent p) ∧ ∀ p, Instr.tick1ms ≠ .lossOfSignal p :=
  ⟨rfl, nofun, nofun, nofun, nofun⟩

theorem witness_DetectorReportsMoveThePort :
    (dark.resetPin = false ∧ dark.relay.relays = false ∧ (dark.ports.get .a).state = .down)
    ∧ (live.ports.get .a).state ≠ .down ∧ State.reset.resetPin = true
    ∧ ((syncingAt 0).resetPin = false ∧ (syncingAt 0).relay = .bypass ∧ ((syncingAt 0).ports.get .a).state ≠ .down
      ∧ ((syncingAt 0).rx.get .a).delim = .gap ∧ restartDue (syncingAt 0) = false)
    ∧ (let s := hearing (inBody 2 9) (lineIn .bypass);
      s.resetPin = false ∧ s.relay = .bypass ∧ (s.ports.get .a).state = .synced ∧ (s.rx.get .a).delim ≠ .gap
      ∧ (s.paths.get (dirIn .a)).flight = none ∧ restartDue s = false) := by decide

theorem witness_LeavingSyncedEntersBypass : ∀ r, r = .joining ∨ r = .relay ∨ r = .fallback →
    (lineIn r).resetPin = false ∧ (lineIn r).restartPending = false ∧ (lineIn r).relay ≠ .bypass
    ∧ (lineIn r).ports.a.state = .synced ∧ (lineIn r).ports.b.state = .synced := by
  rintro r (rfl | rfl | rfl) <;> decide

theorem witness_CodeErrorFillsBucket :
    ((bucketAt 14 live).resetPin = false ∧ ((bucketAt 14 live).ports.get .a).state = .synced
      ∧ ((bucketAt 14 live).rx.get .a).delim = .gap
      ∧ ((bucketAt 14 live).ports.get .a).bucket + 1 < ((bucketAt 14 live).settings.bucketLimit.get .a).toNat
      ∧ restartDue (bucketAt 14 live) = false)
    ∧ (let s := bucketAt 15 (lineIn .bypass);
      s.resetPin = false ∧ (s.ports.get .a).state = .synced ∧ (s.rx.get .a).delim = .gap
      ∧ (s.settings.bucketLimit.get .a).toNat ≤ (s.ports.get .a).bucket + 1 ∧ restartDue s = false ∧ s.relay = .bypass)
    ∧ (let s := bucketAt 15 live;
      s.resetPin = false ∧ (s.ports.get .a).state = .synced ∧ (s.rx.get .a).delim = .gap
      ∧ (s.settings.bucketLimit.get .a).toNat ≤ (s.ports.get .a).bucket + 1 ∧ s.restartPending = false
      ∧ s.relay ≠ .bypass) := by decide

theorem witness_PortsTakeSymbolsByState :
    ((syncingAt 30).resetPin = false ∧ ((syncingAt 30).ports.get .a).state = .syncing ∧ restartDue (syncingAt 30) = false
      ∧ ((syncingAt 30).ports.get .a).syncIdle + 1 < 32)
    ∧ ((syncingAt 31).resetPin = false ∧ (syncingAt 31).relay = .bypass ∧ ((syncingAt 31).ports.get .a).state = .syncing
      ∧ ((syncingAt 31).ports.get .a).syncIdle = 31 ∧ restartDue (syncingAt 31) = false)
    ∧ (dark.resetPin = false ∧ restartDue dark = false ∧ receivesOn .a (.receiveSof .a) = true
      ∧ (dark.ports.get .a).state = .down)
    ∧ (faulted.resetPin = false ∧ restartDue faulted = false ∧ receivesOn .a (.receiveEof .a) = true
      ∧ Instr.receiveEof .a ≠ .codeError .a ∧ (faulted.ports.get .a).state = .fault) := by decide

theorem witness_CoolDownAndSettleExpire :
    (faulted.resetPin = false ∧ faulted.relay.relays = false ∧ (faulted.ports.get .a).state = .fault
      ∧ (faulted.ports.get .a).coolDown ≠ none)
    ∧ (faulted.ports.get .b).state ≠ .fault
    ∧ ((lineIn .joining).resetPin = false ∧ (lineIn .joining).relay = .joining ∧ (lineIn .joining).latch = false)
    ∧ (let s := { lineIn .joining with latch := true };
      s.resetPin = false ∧ s.relay = .joining ∧ s.latch = true)
    ∧ live.relay ≠ .joining := by decide

theorem witness_GapTakesSofAndCountsRest :
    live.resetPin = false ∧ restartDue live = false ∧ (live.ports.get .a).state = .synced ∧ (live.rx.get .a).delim = .gap := by
  decide

theorem witness_HeaderStoresBytesOrEnds :
    (∀ r, r = .relay ∨ r = .bypass →
      (let s := bucketAt 13 (hearing (inHeader [1, 2, 3, 4, 5, 6]) (lineIn r));
        s.resetPin = false ∧ (s.ports.get .a).state = .synced ∧ (s.rx.get .a).delim = .header ∧ restartDue s = false
        ∧ (s.rx.get .a).byteCount < 7 ∧ (s.paths.get (dirIn .a)).flight = none ∧ s.inbox.get .a = none
        ∧ (s.ports.get .a).bucket + 1 + (if Instr.codeError .a = .codeError .a then 1 else 0)
          < (s.settings.bucketLimit.get .a).toNat)
      ∧ (let s := bucketAt 15 (hearing (inHeader [1, 2, 3, 4, 5, 6]) (lineIn r));
        s.resetPin = false ∧ (s.ports.get .a).state = .synced ∧ (s.rx.get .a).delim = .header ∧ s.restartPending = false
        ∧ (s.paths.get (dirIn .a)).flight = none ∧ s.inbox.get .a = none
        ∧ (s.settings.bucketLimit.get .a).toNat
          ≤ (s.ports.get .a).bucket + 1 + (if Instr.receiveSof .a = .codeError .a then 1 else 0)))
    ∧ (∀ gap : Bool,
      let s := bucketAt 15 (hearing { inHeader (seven 0x10 33) with shortGap := gap } live);
      s.resetPin = false ∧ s.restartPending = false ∧ (s.ports.get .a).state = .synced ∧ (s.rx.get .a).delim = .header
      ∧ (s.rx.get .a).byteCount = 7 ∧ lenAccepted (headerOf ((s.rx.get .a).header ++ [0])) = false
      ∧ (s.paths.get (dirIn .a)).flight = none ∧ s.inbox.get .a = none
      ∧ (s.settings.bucketLimit.get .a).toNat ≤ (s.ports.get .a).bucket + 1)
    ∧ (∀ gap : Bool,
      let s := bucketAt 14 (hearing { inHeader (seven 0x10 33) with shortGap := gap } live);
      (s.ports.get .a).state = .synced ∧ (s.rx.get .a).delim = .header ∧ (s.rx.get .a).shortGap = gap
      ∧ (s.rx.get .a).byteCount = 7 ∧ lenAccepted (headerOf ((s.rx.get .a).header ++ [0])) = false
      ∧ (s.ports.get .a).bucket + 1 < (s.settings.bucketLimit.get .a).toNat)
    ∧ (let s := lineIn .bypass;
      s.relay = .bypass ∧ (s.ports.get (otherPort .a)).state = .synced ∧ (s.rx.get (otherPort .a)).delim = .gap) := by
  refine ⟨?_, by decide⟩
  intro r h
  cases h <;> subst r <;> decide

theorem witness_UnmatchedHeaderTakesDefault :
    CompletesHeader .a 0 (headOf 0x10 32) (hearing (inHeader (seven 0x10 32)) live) ∧ kindOf (headOf 0x10 32).kindFlags = .data
    ∧ live.relay = .relay ∧ searchBank live.engine.active .a (headOf 0x10 32) = none
    ∧ live.settings.defaults.get (dirIn .a) = .pass
    ∧ (let s := { live with settings := { Settings.reset with defaults := ⟨.drop, .pass⟩ } };
      CompletesHeader .a 0 (headOf 0x10 32) (hearing (inHeader (seven 0x10 32)) s)
      ∧ s.settings.defaults.get (dirIn .a) = .drop)
    ∧ ∀ r, r = .fallback ∨ r = .bypass ∨ r = .joining →
      CompletesHeader .a 0 (headOf 0x30 0) (hearing (inHeader (seven 0x30 0)) (lineIn r)) := by
  refine ⟨by decide, by decide, by decide, by decide, by decide, by decide, ?_⟩
  rintro r (rfl | rfl | rfl) <;> decide

theorem witness_DecidingEntryActs : ∀ x, x ∈ ([(.pass, none, .unused), (.drop, none, .unused),
      (.capture, some 4, .capture .empty), (.take, some 4, .capture .empty), (.learn, some 4, .answer answerSlot),
      (.take, some 4, .unused), (.answer, some 4, .unused)] : List (Action × Option (Fin 32) × SlotBody)) →
    let s := deciding 0x10 (entryFor x.1 x.2.1) x.2.2;
    CompletesHeader .a 0 (headOf 0x10 0) s ∧ s.relay = .relay ∧ kindOf (headOf 0x10 0).kindFlags = .data
    ∧ searchBank s.engine.active .a (headOf 0x10 0) = some 0
    ∧ s.engine.active[(0 : Fin 64)].action = x.1 ∧ s.engine.active[(0 : Fin 64)].slot = x.2.1
    ∧ s.slots[(4 : Fin 32)].body = x.2.2 := by
  decide

theorem witness_ManagementHeadersAreSorted :
    (∀ r k, k ∈ ([0x80, 0x90, 0xF0] : List Byte) →
      CompletesHeader .a 0 (headOf k 2) (hearing (inHeader (seven k 2)) (lineIn r)))
    ∧ (∀ r, CompletesHeader .a 0 (headOf 0xA0 1) (hearing (inHeader (seven 0xA0 1)) (lineIn r)) ∧ (lineIn r).relay = r)
    ∧ live.ownAddr ≠ 255 ∧ (headOf 0x80 2).dest ≠ live.ownAddr
    ∧ (headOf 0x80 2).dest ≠ 255
    ∧ (headOf 0x80 2).dest = { live with ownAddr := 9 }.ownAddr
    ∧ CompletesHeader .a 0 (headerOf [0x80, 255, 3, 7, 0, 0, 1, 0]) (hearing (inHeader [0x80, 255, 3, 7, 0, 0, 1]) live) := by
  refine ⟨fun r => ?_, fun r => ?_, by decide⟩ <;> cases r <;> decide

/-- RELAY at a byte of the body of a forwarded frame with two payload bytes. -/
def bodyAt (count : Nat) : State :=
  { ending .forward (.capture 4 0) with rx := ⟨{ inBody 2 count with checkBytes := [] }, .reset⟩ }

theorem witness_BodyByteOfForwardedFrame :
    (∀ n : Fin 12, 9 ≤ n.val → let s := bodyAt n.val;
      s.resetPin = false ∧ restartDue s = false ∧ (s.ports.get .a).state = .synced ∧ (s.rx.get .a).delim = .body
      ∧ (s.rx.get .a).shortGap = false ∧ (s.paths.get (dirIn .a)).flight = some (flying .forward (.capture 4 0))
      ∧ (flying .forward (.capture 4 0)).decision.verdict = .forward
      ∧ (s.paths.get (dirIn .a)).store = [] ++ [{ bytes := [1, 2], mark := none }]
      ∧ (s.rx.get .a).byteCount = n.val ∧ 10 + (headerOf (s.rx.get .a).header).len.toNat = 12)
    ∧ (let s := hearing (inBody 2 9) (ending .take (.capture 4 0));
      s.resetPin = false ∧ restartDue s = false ∧ (s.ports.get .a).state = .synced ∧ (s.rx.get .a).delim = .body
      ∧ (s.rx.get .a).shortGap = false ∧ (s.paths.get (dirIn .a)).flight = some (flying .take (.capture 4 0))
      ∧ (flying .take (.capture 4 0)).decision.verdict ≠ .forward ∧ (s.rx.get .a).byteCount + 2 < 12)
    ∧ (let s := hearing (inBody 2 11) (lineIn .bypass);
      s.resetPin = false ∧ restartDue s = false ∧ (s.ports.get .a).state = .synced ∧ (s.rx.get .a).delim = .body
      ∧ (s.paths.get (dirIn .a)).flight = none ∧ (s.rx.get .a).byteCount < 12 ∧ 12 ≤ (s.rx.get .a).byteCount + 2) := by
  decide

theorem witness_ForwardedFrameEnds :
    (∀ x, x ∈ ([(.forward, .none), (.forward, .capture 4 0), (.drop, .none), (.answered false, .none), (.take, .capture 4 0),
        (.consumeAgent, .none), (.consumeAssign, .none)] : List (Verdict × Commit)) →
      let s := bucketAt 14 (ending x.1 x.2);
      s.resetPin = false ∧ restartDue s = false ∧ (s.ports.get .a).state = .synced ∧ (s.rx.get .a).delim = .body
      ∧ (s.rx.get .a).shortGap = false ∧ s.relay ≠ .bypass ∧ s.inbox.get .a = none
      ∧ (s.paths.get (dirIn .a)).flight = some (flying x.1 x.2) ∧ (flying x.1 x.2).decision.verdict = x.1
      ∧ (flying x.1 x.2).decision.commit = x.2
      ∧ (x.1 = .forward → (s.paths.get (dirIn .a)).store
        = [] ++ [{ ({ bytes := [1, 2], mark := none } : StoredFrame) with mark := none }])
      ∧ (s.ports.get .a).bucket + (1 + 0) < (s.settings.bucketLimit.get .a).toNat
      ∧ (s.rx.get .a).byteCount ≤ 10 + (headerOf (s.rx.get .a).header).len.toNat)
    ∧ (∀ v, v ∈ ([.forward, .drop, .take, .consumeAgent, .answered true] : List Verdict) →
      let s := bucketAt 15 (ending v .none);
      s.restartPending = false ∧ s.relay ≠ .bypass ∧ (s.paths.get (dirIn .a)).flight = some (flying v .none)
      ∧ (s.settings.bucketLimit.get .a).toNat ≤ (s.ports.get .a).bucket + (1 + 0))
    ∧ (let s := bucketAt 15 (hearing (inBody 0 10) (lineIn .bypass));
      s.restartPending = false ∧ s.relay = .bypass ∧ (s.paths.get (dirIn .a)).flight = none
      ∧ (s.settings.bucketLimit.get .a).toNat ≤ (s.ports.get .a).bucket + (1 + 0))
    ∧ (let s := { bucketAt 13 (ending .consumeAgent .none) with
        inbox := ⟨some { kind := .request false, src := 3, seq := 7, payload := [1] }, none⟩ };
      EndClass.aborted ≠ .good ∧ restartDue s = false ∧ s.inbox.get .a ≠ none
      ∧ (s.ports.get .a).bucket + (1 + 1) < (s.settings.bucketLimit.get .a).toNat)
    ∧ (let s := bucketAt 13 (hearing (inBody 0 10) (lineIn .bypass));
      (s.ports.get .a).state = .synced ∧ (s.rx.get .a).delim = .body ∧ (s.paths.get (dirIn .a)).flight = none
      ∧ restartDue s = false ∧ (s.ports.get .a).bucket + (1 + 1) < (s.settings.bucketLimit.get .a).toNat)
    ∧ bodyEnd .a 10 (inBody 0 10) (.receiveEof .a) = some .good
    ∧ bodyEnd .a 10 { inBody 0 10 with checkBytes := [0, 0] } (.receiveEof .a) = some .badCheck
    ∧ bodyEnd .a 10 (inBody 0 9) (.receiveEof .a) = some .length
    ∧ bodyEnd .a 10 (inBody 0 10) (.receiveDataByte .a 0) = some .length
    ∧ ([.receiveAbort .a, .receiveIdle .a, .receiveSof .a, .codeError .a].map (bodyEnd .a 10 (inBody 0 10)))
      = List.replicate 4 (some .aborted) := by decide

theorem witness_ShortGapFrameReachesNothing :
    (∀ n : Fin 2, let s := bucketAt (13 + 2 * n.val) (hearing { inBody 0 10 with shortGap := true } live);
      s.resetPin = false ∧ s.restartPending = false ∧ restartDue s = false ∧ (s.ports.get .a).state = .synced
      ∧ (s.rx.get .a).delim = .body ∧ (s.rx.get .a).shortGap = true ∧ s.inbox.get .a = none
      ∧ (s.paths.get (dirIn .a)).flight = none
      ∧ (n = 0 → (s.ports.get .a).bucket + 1 + (if Instr.codeError .a = .codeError .a then 1 else 0)
        < (s.settings.bucketLimit.get .a).toNat)
      ∧ (n = 1 → (s.settings.bucketLimit.get .a).toNat
        ≤ (s.ports.get .a).bucket + 1 + (if Instr.receiveEof .a = .codeError .a then 1 else 0))
      ∧ (s.rx.get .a).byteCount ≤ 10 + (headerOf (s.rx.get .a).header).len.toNat
      ∧ bodyEnd .a (10 + (headerOf (s.rx.get .a).header).len.toNat) (s.rx.get .a) (.receiveEof .a) = some .good)
    ∧ (let s := hearing { inHeader (seven 0x10 32) with shortGap := true } live;
      s.resetPin = false ∧ restartDue s = false ∧ (s.ports.get .a).state = .synced ∧ (s.rx.get .a).delim = .header
      ∧ (s.rx.get .a).shortGap = true ∧ (s.rx.get .a).byteCount = 7
      ∧ lenAccepted (headerOf ((s.rx.get .a).header ++ [0])) = true)
    ∧ (∀ n : Fin 12, 9 ≤ n.val →
      let s := hearing { inBody 2 n.val with checkBytes := [], shortGap := true } live;
      s.resetPin = false ∧ restartDue s = false ∧ (s.ports.get .a).state = .synced ∧ (s.rx.get .a).delim = .body
      ∧ (s.rx.get .a).shortGap = true ∧ (s.rx.get .a).byteCount = n.val
      ∧ 10 + (headerOf (s.rx.get .a).header).len.toNat = 12) := by decide

theorem witness_CaptureCommitFollowsTable : ∀ c, c ∈ ([.empty, .full (record 1) false, .held (record 1) true none 3,
      .held (record 1) true (some (record 2)) 3] : List CaptureSlot) →
    let s := slot4 (.capture c) (ending .take (.capture 4 0));
    AtGoodEof .a s ∧ s.relay = .relay ∧ s.inbox.get .a = none
    ∧ (s.paths.get (dirIn .a)).flight = some (flying .take (.capture 4 0))
    ∧ (flying .take (.capture 4 0)).decision.entry = .entry 0
    ∧ (flying .take (.capture 4 0)).decision.commit = .capture 4 s.slots[(4 : Fin 32)].gen
    ∧ s.slots[(4 : Fin 32)].body = .capture c := by
  decide

theorem witness_LearnCommitSetsAnswer :
    let s := slot4 (.answer answerSlot) (ending .forward (.learn 4 0));
    AtGoodEof .a s ∧ s.relay = .relay ∧ s.inbox.get .a = none
    ∧ (s.paths.get (dirIn .a)).flight = some (flying .forward (.learn 4 0))
    ∧ (flying .forward (.learn 4 0)).decision.verdict = .forward
    ∧ (flying .forward (.learn 4 0)).decision.commit = .learn 4 s.slots[(4 : Fin 32)].gen
    ∧ s.slots[(4 : Fin 32)].body = .answer answerSlot := by decide

theorem witness_CommitAbandonedLeavesSlots :
    (let s := bucketAt 13 (slot4 (.capture .empty) (ending .forward (.capture 4 1)));
      s.resetPin = false ∧ restartDue s = false ∧ (s.ports.get .a).state = .synced ∧ (s.rx.get .a).delim = .body
      ∧ (s.rx.get .a).shortGap = false ∧ s.inbox.get .a = none
      ∧ (s.paths.get (dirIn .a)).flight = some (flying .forward (.capture 4 1))
      ∧ (s.ports.get .a).bucket + 2 < (s.settings.bucketLimit.get .a).toNat
      ∧ bodyEnd .a (10 + (headerOf (s.rx.get .a).header).len.toNat) (s.rx.get .a) (.receiveEof .a) = some .good
      ∧ bodyEnd .a (10 + (headerOf (s.rx.get .a).header).len.toNat) (s.rx.get .a) (.receiveAbort .a) = some .aborted
      ∧ (s.rx.get .a).byteCount ≤ 10 + (headerOf (s.rx.get .a).header).len.toNat ∧ s.slots[(4 : Fin 32)].gen ≠ 1)
    ∧ (let s := { ending .take (.learn 4 0) with relay := .fallback };
      s.resetPin = false ∧ restartDue s = false ∧ (s.paths.get (dirIn .a)).flight = some (flying .take (.learn 4 0))
      ∧ s.relay ≠ .relay) := by decide

/-- The end of a frame the agent receives from station 3. -/
def agentEnding (v : Verdict) (k : InboxKind) (payload : List Byte) : State :=
  { ending v .none with inbox := ⟨some { kind := k, src := 3, seq := 7, payload := payload }, none⟩ }

/-- BYPASS at the end of a frame whose decision the entry to BYPASS has abandoned, still with the agent. -/
def abandoned (k : InboxKind) (code : Byte) : State :=
  { hearing (inBody 0 10) (lineIn .bypass) with inbox := ⟨some { kind := k, src := 3, seq := 7, payload := [code] }, none⟩ }

theorem witness_FrameEndRunsTheRequest :
    (∀ x, x ∈ ([(.consumeAgent, .request false, [1]), (.forward, .request true, [1]),
        (.consumeAssign, .assign, [9])] : List (Verdict × InboxKind × List Byte)) →
      let s := agentEnding x.1 x.2.1 x.2.2;
      AtGoodEof .a s ∧ s.relay ≠ .bypass ∧ (s.paths.get (dirIn .a)).flight = some (flying x.1 .none)
      ∧ s.inbox.get .a = some { kind := x.2.1, src := 3, seq := 7, payload := x.2.2 }
      ∧ (flying x.1 .none).decision.verdict = x.1 ∧ (flying x.1 .none).decision.commit = .none
      ∧ (x.1 = .forward → (s.paths.get (dirIn .a)).store
        = [] ++ [{ ({ bytes := [1, 2], mark := none } : StoredFrame) with mark := none }]))
    ∧ ∀ x, x ∈ ([(.request false, 20), (.assign, 9), (.request true, 1), (.request true, 2)] : List (InboxKind × Byte)) →
      let s := abandoned x.1 x.2;
      AtGoodEof .a s ∧ s.relay = .bypass ∧ (s.paths.get (dirIn .a)).flight = none
      ∧ s.inbox.get .a = some { kind := x.1, src := 3, seq := 7, payload := [x.2] } := by
  decide

/-- A POLL header from station 3 to a destination, at its last byte, with an answer slot and a queue. -/
def polling (kind dest : Byte) (y : AnswerSlot) (q : List EntryBody) : State :=
  { withEntry (entryFor .answer (some 4)) (slot4 (.answer y)
      (hearing (inHeader [kind, dest, 3, 7, 0x12, 0x34, 0]) live)) with queues := ⟨queueOf q, queueOf []⟩ }

theorem witness_PollIsTestedInOrder : ∀ x, x ∈ ([(0x21, 9, answerSlot, []), (0x20, 0, answerSlot, []),
      (0x20, 255, answerSlot, []), (0x20, 9, { answerSlot with content := .none }, []), (0x20, 9, { answerSlot with maxAge := 37 }, []),
      (0x20, 9, { answerSlot with maxAge := 38 }, [answerEntry false]), (0x20, 9, answerSlot, [.answer 4 0 true 3 9 8 0]),
      (0x20, 9, answerSlot, List.replicate 16 (.assign 1)), (0x20, 9, answerSlot, List.replicate 15 (.assign 1))] :
        List (Byte × Byte × AnswerSlot × List EntryBody)) →
    let h := headerOf [x.1, x.2.1, 3, 7, 0x12, 0x34, 0, 0]
    let s := polling x.1 x.2.1 x.2.2.1 x.2.2.2;
    CompletesHeader .a 0 h s ∧ s.relay = .relay ∧ kindOf h.kindFlags = .poll ∧ searchBank s.engine.active .a h = some 0
    ∧ s.engine.active[(0 : Fin 64)].action = .answer ∧ s.engine.active[(0 : Fin 64)].slot = some 4
    ∧ s.slots[(4 : Fin 32)].body = .answer x.2.2.1 := by
  decide

theorem witness_PollIsTestedInOrder_rows :
    noproxy (headerOf [0x21, 9, 3, 7, 0x12, 0x34, 0, 0]) = true ∧ noproxy (headerOf [0x20, 9, 3, 7, 0x12, 0x34, 0, 0]) = false
    ∧ (headerOf [0x20, 0, 3, 7, 0x12, 0x34, 0, 0]).dest = 0 ∧ (headerOf [0x20, 255, 3, 7, 0x12, 0x34, 0, 0]).dest = 255
    ∧ { answerSlot with maxAge := 37 }.maxAge ≤ answerSlot.age ∧ answerSlot.age < { answerSlot with maxAge := 38 }.maxAge
    ∧ answerSlot.content ≠ .none
    ∧ (queueOf [answerEntry false]).entries.find? (fun x => decide (x.body.slotField = some 4))
      = some { body := .answer 4 0 false 3 9 7 0x1234, time := 0 }
    ∧ (queueOf [.answer 4 0 true 3 9 8 0]).entries.find? (fun x => decide (x.body.slotField = some 4))
      = some { body := .answer 4 0 true 3 9 8 0, time := 0 }
    ∧ (queueOf (List.replicate 16 (.assign 1))).entries.find? (fun x => decide (x.body.slotField = some 4)) = none
    ∧ 16 ≤ (queueOf (List.replicate 16 (.assign 1))).occupancy ∧ (queueOf (List.replicate 15 (.assign 1))).occupancy < 16 := by
  decide

theorem witness_PollEndSettlesReservation :
    (∀ x, x ∈ ([(true, 13), (true, 15), (false, 13), (false, 15)] : List (Bool × Nat)) →
      let s := bucketAt x.2 { ending (.answered x.1) .none with
        queues := ⟨queueOf [.assign 1, answerEntry false, .beacon 5], queueOf []⟩ };
      s.resetPin = false ∧ s.restartPending = false ∧ restartDue s = false ∧ (s.ports.get .a).state = .synced
      ∧ (s.rx.get .a).delim = .body ∧ (s.rx.get .a).shortGap = false ∧ s.inbox.get .a = none ∧ s.relay ≠ .bypass
      ∧ (s.rx.get .a).byteCount ≤ 10 + (headerOf (s.rx.get .a).header).len.toNat
      ∧ (s.paths.get (dirIn .a)).flight = some (flying (.answered x.1) .none)
      ∧ (flying (.answered x.1) .none).decision.verdict = .answered x.1
      ∧ (flying (.answered x.1) .none).decision.slot = some (4, 0)
      ∧ (x.2 = 13 → (s.ports.get .a).bucket + (1 + 1) < (s.settings.bucketLimit.get .a).toNat)
      ∧ (x.2 = 15 → (s.settings.bucketLimit.get .a).toNat ≤ (s.ports.get .a).bucket + (1 + 0))
      ∧ (s.queues.get .a).entries
        = [{ body := .assign 1, time := 0 }] ++ { body := answerEntry false, time := 0 } :: [{ body := .beacon 5, time := 0 }]
      ∧ ∀ y ∈ [({ body := .assign 1, time := 0 } : QEntry)] ++ [{ body := .beacon 5, time := 0 }], y.body.isReady = true)
    ∧ ∀ y ∈ (queueOf []).entries, ∀ src dst seq tag, y.body ≠ .answer 4 0 false src dst seq tag :=
  ⟨by decide, nofun⟩

theorem witness_OutputsStartOnlyWhenFree :
    (let s := sending (.between 2) [{ bytes := [1], mark := none }] (queueOf []) live;
      s.resetPin = false ∧ s.relay = .relay ∧ (s.paths.get (dirOut .a)).tx = .between 2 ∧ (s.paths.get (dirOut .a)).store ≠ [])
    ∧ (lineIn .bypass).relay = .bypass ∧ (lineIn .joining).relay = .joining
    ∧ ((sending (.between 1) [] (queueOf []) live).paths.get (dirOut .a)).tx.isFree = false
    ∧ (live.paths.get (dirOut .a)).store = []
    ∧ (hearing (inHeader []) live).rx.a.delim ≠ .gap
    ∧ ∀ x ∈ (queueOf [answerEntry false]).entries, x.body.isReady = false := by decide

theorem witness_TransmitterSendsSymbol :
    live.resetPin = false ∧ restartDue live = false ∧ live.relay = .relay
    ∧ (live.paths.get (dirOut .a)).tx = .between 2 ∧ (live.paths.get (dirOut .a)).store = [] ∧ (live.queues.get .a).entries = []
    ∧ (∀ x ∈ (queueOf [answerEntry false]).entries, x.body.isReady = false)
    ∧ ((sending (.between 1) [] (queueOf []) live).paths.get (dirOut .a)).tx = .between 1
    ∧ Selects .a { body := .assign 9, time := 0 } [] (sending (.between 2) [] (queueOf [.assign 9]) live)
    ∧ (∃ t, exec (moveOutRow .a (.assign 9)) (sending (.between 2) [] (queueOf [.assign 9]) live) = .next t)
    ∧ (∀ tx, tx ∈ [.through false, .through true, .injection false [1] false, .injection true [1] false, .injection true [] false] →
      let s := sending tx [{ bytes := [1], mark := none }] (queueOf []) live;
      s.resetPin = false ∧ restartDue s = false ∧ (s.paths.get (dirOut .a)).tx = tx)
    ∧ ((sending (.through true) [{ bytes := [], mark := some .abort }] (queueOf []) live).paths.get (dirOut .a)).store
      = { bytes := [], mark := some .abort } :: []
    ∧ (lineIn .joining).relay = .joining ∧ ((lineIn .joining).paths.get (dirOut .a)).tx = .between 2
    ∧ (sending (.closing false) [] (queueOf []) (lineIn .bypass)).relay = .bypass
    ∧ ((sending (.closing false) [] (queueOf []) (lineIn .bypass)).paths.get (dirOut .a)).tx = .closing false
    ∧ ((lineIn .bypass).paths.get (dirOut .a)).tx.isClosing = false := by
  have sent : ∃ t, exec (moveOutRow .a (.assign 9)) (sending (.between 2) [] (queueOf [.assign 9]) live) = .next t := ⟨_, rfl⟩
  simp only [sent, true_and]
  decide

theorem witness_SlotMoveOutsBuildFrames :
    Selects .a { body := answerEntry true, time := 0 } [{ body := .beacon 5, time := 0 }]
      (sending (.between 2) [] (queueOf [.beacon 5, answerEntry true]) (slot4 (.answer answerSlot) live))
    ∧ (slot4 (.answer answerSlot) live).slots[(4 : Fin 32)].body = .answer answerSlot
    ∧ Selects .a { body := .beacon 4, time := 0 } [{ body := answerEntry false, time := 0 }]
      (sending (.between 2) [] (queueOf [answerEntry false, .beacon 4]) (slot4 (.beacon (beaconSlot (some 1))) live))
    ∧ (slot4 (.beacon (beaconSlot (some 1))) live).slots[(4 : Fin 32)].body = .beacon (beaconSlot (some 1)) := by decide

theorem witness_ReplyMoveOutsBuildFrames :
    (∀ b, b = .mreply 5 2 1 [3, 0] false ∨ b = .assign 9 ∨ b = .notice →
      Selects .a { body := b, time := 0 } [] (sending (.between 2) [] (queueOf [b]) owned))
    ∧ owned.owner = some { addr := 5, lease := 600, policy := .keep, port := .a } := by
  refine ⟨?_, by decide⟩
  rintro b (rfl | rfl | rfl) <;> decide

theorem witness_NoticeIsOfferedToOwnerPort :
    (let s := { owned with notice := { NoticeUnit.reset with pending := 1 }
                           queues := ⟨queueOf (List.replicate 15 (.assign 1)), queueOf []⟩ };
      s.owner = some { addr := 5, lease := 600, policy := .keep, port := .a } ∧ s.notice.pending ≠ 0
      ∧ s.notice.repeatTimer = none ∧ (s.relay = .relay ∨ s.relay = .fallback)
      ∧ (∀ p, ∀ x ∈ (s.queues.get p).entries, x.body ≠ .notice) ∧ (s.queues.get .a).occupancy < 16)
    ∧ (let s := { owned with queues := ⟨queueOf (List.replicate 16 (.assign 1)), queueOf []⟩ };
      ∃ o, s.owner = some o ∧ 16 ≤ (s.queues.get o.port).occupancy)
    ∧ live.owner = none := by
  refine ⟨⟨by decide, by decide, by decide, by decide, fun p => ?_, by decide⟩, ⟨_, rfl, by decide⟩, by decide⟩
  cases p <;> decide

/-- A tick that has fallen: a cool-down and the settle timer at 2 ticks, a beacon timer at its last and another not, a NOTICE over
the age limit in one queue and an entry at the limit in the other. -/
def ticking : State :=
  { atTick (lineIn .joining) with
    timestamp := 500001
    queues := ⟨queueOf [.notice], { entries := [{ body := .assign 1, time := 1 }], held := false }⟩
    slots := (live.slots.set 4 (slotWith (.beacon (beaconSlot (some 1))))).set 5 (slotWith (.beacon (beaconSlot (some 2))))
    ports := ⟨{ portIn .fault 3 with coolDown := some 2 }, portIn .synced 1⟩ }

theorem witness_TimeBaseCounts :
    (live.resetPin = false ∧ live.due = { one := false, ten := false, hundred := false })
    ∧ ((atTick live).due.one = true ∧ (∃ t, exec .tick1ms (atTick live) = .next t))
    ∧ (let s := { live with due := { one := false, ten := true, hundred := true } };
      s.due.one = false ∧ s.due.ten = true ∧ ∃ t, exec .tick10ms s = .next t)
    ∧ (let s := { live with due := { one := false, ten := false, hundred := true } };
      s.due.one = false ∧ s.due.ten = false ∧ s.due.hundred = true ∧ ∃ t, exec .tick100ms s = .next t)
    ∧ (ticking.resetPin = false ∧ ticking.due.one = true ∧ restartDue ticking = false
      ∧ (∀ p k, (ticking.ports.get p).coolDown = some k → 2 ≤ k) ∧ (∀ k, ticking.settle = some k → 2 ≤ k)
      ∧ ∀ p, ∀ x ∈ (ticking.queues.get p).entries,
        ticking.settings.ageLimit.toNat * 1000 < (ticking.timestamp - x.time).toNat → x.body.isNamed = false)
    ∧ (∀ x ∈ (ticking.queues.get .a).entries, x.body = .notice
      ∧ ticking.settings.ageLimit.toNat * 1000 < (ticking.timestamp - x.time).toNat)
    ∧ (ticking.slots[(4 : Fin 32)].beaconTimer = some 1 ∧ ticking.slots[(5 : Fin 32)].beaconTimer = some 2)
    ∧ (let s := atTick faulted;
      s.resetPin = false ∧ s.due.one = true ∧ s.restartPending = false ∧ (s.ports.get .a).coolDown = some 1)
    ∧ (let s := atTick { lineIn .joining with settle := some 1 };
      s.resetPin = false ∧ s.due.one = true ∧ s.restartPending = false ∧ s.relay = .joining ∧ s.settle = some 1)
    ∧ (let s := atTick (slot4 (.beacon (beaconSlot (some 1))) live);
      s.resetPin = false ∧ s.due.one = true ∧ s.restartPending = false
      ∧ s.slots[(4 : Fin 32)].body = .beacon (beaconSlot (some 1)) ∧ (beaconSlot (some 1)).timer = some 1) := by
  refine ⟨by decide, ⟨rfl, _, rfl⟩, ⟨rfl, rfl, _, rfl⟩, ⟨rfl, rfl, rfl, _, rfl⟩,
    ⟨rfl, rfl, rfl, fun p => ?_, ?_, fun p => ?_⟩, by decide⟩
  · cases p
    · rintro k ⟨⟩; decide
    · rintro k ⟨⟩
  · rintro k ⟨⟩; decide
  · cases p <;> decide

theorem witness_AgeOutWithdrawsOldEntries : ∀ b, b = .assign 1 ∨ b = .notice →
    let s := { owned with timestamp := 500001, queues := ⟨queueOf [b], queueOf []⟩ };
    s.resetPin = false ∧ restartDue s = false
    ∧ (∀ x ∈ (s.queues.get .a).entries, s.settings.ageLimit.toNat * 1000 < (s.timestamp - x.time).toNat)
    ∧ (∀ x ∈ (s.queues.get .a).entries, x.body = b ∧ x.body.isNamed = false) := by
  rintro b (rfl | rfl) <;> decide

/-- A beacon slot on some ports, and the queues. -/
def beaconing (ports : BeaconPorts) (a b : List EntryBody) : State :=
  { slot4 (.beacon { beaconSlot (some 1) with ports := ports }) live with queues := ⟨queueOf a, queueOf b⟩ }

theorem witness_BeaconExpiryPlacesOrIsLate :
    (∀ q a b, (beaconing q a b).resetPin = false
      ∧ (beaconing q a b).slots[(4 : Fin 32)].body = .beacon { beaconSlot (some 1) with ports := q }
      ∧ { beaconSlot (some 1) with ports := q }.timer ≠ none ∧ { beaconSlot (some 1) with ports := q }.ports = q
      ∧ (beaconing q a b).relay = .relay)
    ∧ (let s := beaconing .a (List.replicate 15 (.assign 1)) [.beacon 4];
      (s.queues.get .a).occupancy < 16 ∧ (∀ z ∈ (s.queues.get .a).entries, z.body.slotField ≠ some 4)
      ∧ ¬∀ z ∈ (s.queues.get .b).entries, z.body.slotField ≠ some 4)
    ∧ (let s := beaconing .both [] [];
      (s.queues.get .a).occupancy < 16 ∧ (s.queues.get .b).occupancy < 16 ∧ (s.queues.get .a).entries = []
      ∧ (s.queues.get .b).entries = [])
    ∧ (slot4 (.beacon (beaconSlot none)) live).slots[(4 : Fin 32)].beaconTimer = none := by
  exact ⟨fun _ _ _ => ⟨rfl, rfl, nofun, rfl, rfl⟩, by decide⟩

theorem witness_LapseReturnsSlotToFull : ∀ q, q = none ∨ q = some (record 2) →
    let s := { slot4 (.capture (.held (record 1) true q 1)) owned with holdList := [4] };
    s.resetPin = false ∧ s.slots[(4 : Fin 32)].body = .capture (.held (record 1) true q 1) ∧ live.slots[(4 : Fin 32)].isHeld = false := by
  rintro q (rfl | rfl) <;> decide

theorem witness_TenMillisecondTimersRunOut :
    live.due.ten = false
    ∧ (let s := { slot4 (.capture (.held (record 1) true none 2)) (atTick owned) with
        holdList := [4], notice := { NoticeUnit.reset with repeatTimer := some 2 } };
      s.resetPin = false ∧ s.due.ten = true ∧ (∀ n : Fin 32, n ≠ 4 → s.slots[n].isHeld = false)
      ∧ s.slots[(4 : Fin 32)].body = .capture (.held (record 1) true none 2) ∧ s.notice.repeatTimer = some 2)
    ∧ (let s := { slot4 (.capture (.held (record 1) true none 1)) (atTick owned) with
        holdList := [4], notice := { NoticeUnit.reset with repeatTimer := some 1 } };
      s.resetPin = false ∧ s.due.ten = true ∧ s.slots[(4 : Fin 32)].body = .capture (.held (record 1) true none 1)
      ∧ s.notice.repeatTimer = some 1)
    ∧ live.notice.repeatTimer = none := by decide

theorem witness_LeaseRunsOut :
    (live.resetPin = false ∧ live.due.hundred = false ∧ live.owner = none)
    ∧ (let s := atTick owned;
      s.resetPin = false ∧ s.due.hundred = true ∧ s.owner = some { addr := 5, lease := 600, policy := .keep, port := .a }
      ∧ 2 ≤ ({ addr := 5, lease := 600, policy := .keep, port := .a } : Owner).lease)
    ∧ (let o : Owner := { addr := 5, lease := 1, policy := .fallback, port := .a };
      let s := atTick { owned with owner := some o };
      s.resetPin = false ∧ s.due.hundred = true ∧ s.owner = some o ∧ o.lease = 1)
    ∧ ((atTick live).due.hundred = true ∧ (atTick live).owner = none) := by decide

/-- A running copy at a position. -/
def copying (pos : Nat) : State := { owned with engine := { MatchEngine.reset with copy := .running pos .a 5 1 } }

theorem witness_BankCopyRunsToCompletion :
    (Accepts req owned ∧ FromOwner req owned ∧ owned.engine.copy = .idle)
    ∧ (Accepts req (copying 0) ∧ FromOwner req (copying 0) ∧ (copying 0).engine.copy ≠ .idle)
    ∧ ((copying 62).resetPin = false ∧ (copying 62).engine.copy = .running (62 : Fin 64).val .a 5 1 ∧ (62 : Fin 64).val < 63)
    ∧ (copying 63).engine.copy = .running 63 .a 5 1
    ∧ ((copying 64).resetPin = false ∧ (copying 64).engine.copy = .running 64 .a 5 1) := by decide

/-- A PASS entry for DATA. -/
def passEntry : Entry := { Entry.cleared with valid := true, kData := true }

theorem witness_EntryWriteAndClearChangeStaging :
    passEntry.fits ∧ (passEntry.kData || passEntry.kPoll || passEntry.kAnswer) = true
    ∧ (Accepts req owned ∧ FromOwner req owned ∧ owned.engine.copy = .idle)
    ∧ (Accepts req (copying 0) ∧ FromOwner req (copying 0) ∧ (copying 0).engine.copy ≠ .idle
      ∧ (List.replicate 12 (0 : Byte)).length = 12)
    ∧ (3 ≤ (3 : Byte).toNat ∧ 8 ≤ (8 : Byte).toNat ∧ 6 ≤ (6 : Byte).toNat ∧ 32 ≤ (32 : Byte).toNat
      ∧ (5 : Byte).getLsbD 0 = true ∧ (5 : Byte).getLsbD 2 = true)
    ∧ (¬(64 ≤ (63 : Byte).toNat ∨ 3 ≤ (2 : Byte).toNat ∨ 8 ≤ (1 : Byte).toNat ∨ 6 ≤ (0 : Byte).toNat
        ∨ (0xF8 : Byte).getLsbD 0 = true ∧ (0xFF : Byte) = 255 ∨ (0xF8 : Byte).getLsbD 2 = true ∧ 32 ≤ (0xFF : Byte).toNat)
      ∧ passEntry.valid = (0xFF : Byte).getLsbD 0 ∧ entryPortsByte passEntry.ports = 2
      ∧ passEntry.kData = (1 : Byte).getLsbD 0 ∧ passEntry.kPoll = (1 : Byte).getLsbD 1
      ∧ passEntry.kAnswer = (1 : Byte).getLsbD 2 ∧ passEntry.tag = half 0 0 ∧ passEntry.mask = half 0 0
      ∧ passEntry.src = (if (0xF8 : Byte).getLsbD 0 then some (0xFF : Byte) else none)
      ∧ passEntry.dest = (if (0xF8 : Byte).getLsbD 1 then some (0xFF : Byte) else none)
      ∧ actionByte passEntry.action = 0
      ∧ passEntry.slot.map slotByte = (if (0xF8 : Byte).getLsbD 2 then some (0xFF : Byte) else none))
    ∧ (64 ≤ (64 : Byte).toNat ∧ (64 : Byte) ≠ 0xFF)
    ∧ Entry.cleared.src ≠ some 255
    ∧ ¬(Entry.cleared.fits ∧ (Entry.cleared.kData || Entry.cleared.kPoll || Entry.cleared.kAnswer) = true) :=
  have fits : passEntry.fits := ⟨by decide, by decide, nofun, nofun⟩
  have unfit : ¬(Entry.cleared.fits ∧ (Entry.cleared.kData || Entry.cleared.kPoll || Entry.cleared.kAnswer) = true) :=
    fun h => nomatch h.2
  by simp only [fits, unfit, true_and, and_true, not_false_eq_true]; decide

theorem witness_BankSwapExchangesBanks :
    (Accepts req owned ∧ FromOwner req owned ∧ owned.engine.copy = .idle ∧ owned.engine.incomplete = false
      ∧ half 0 0 = owned.engine.stagingGen ∧ half 0 1 ≠ owned.engine.stagingGen)
    ∧ (copying 0).engine.copy ≠ .idle
    ∧ (let s := { owned with engine := { MatchEngine.reset with incomplete := true } };
      Accepts req s ∧ FromOwner req s ∧ s.engine.copy = .idle ∧ s.engine.incomplete = true) := by decide

theorem witness_ReadsAnswerAndChangeNothing :
    Accepts other owned ∧ owned.engine.copy = .idle ∧ Accepts other (copying 0) ∧ (copying 0).engine.copy ≠ .idle
    ∧ 2 ≤ (2 : Byte).toNat ∧ 64 ≤ (64 : Byte).toNat ∧ 32 ≤ (32 : Byte).toNat ∧ 8 ≤ (8 : Byte).toNat
    ∧ (∀ b, b ∈ ([.unused, .capture .empty, .capture (.full (record 1) true), .capture (.held (record 1) true none 1),
        .answer answerSlot, .beacon (beaconSlot none)] : List SlotBody) → (slot4 b owned).slots[(4 : Fin 32)].body = b) := by
  decide

theorem witness_ClaimGrantsAndRenounceClears :
    (Accepts req live ∧ policyOf 1 = some .fallback ∧ 1 ≤ (half 0x02 0x58).toNat ∧ (half 0x02 0x58).toNat ≤ 600 ∧ req.src ≠ 0
      ∧ live.owner = none)
    ∧ (Accepts other owned ∧ owned.owner = some { addr := 5, lease := 600, policy := .keep, port := .a } ∧ 5 ≠ other.src)
    ∧ (2 ≤ (2 : Byte).toNat ∧ half 0 0 = 0 ∧ 600 < (half 0x02 0x59).toNat)
    ∧ (Accepts req owned ∧ FromOwner req owned) := by decide

theorem witness_SettingsWriteReplacesRecord :
    (Accepts req owned ∧ FromOwner req owned ∧ 4 ≤ (4 : Byte).toNat ∧ (1 : Byte) ≠ 0 ∧ (1 : Half) ≠ 0
      ∧ (owned.ports.get .a).bucket < 4 ∧ (owned.ports.get .b).bucket < 4)
    ∧ (Accepts req (bucketAt 4 owned) ∧ FromOwner req (bucketAt 4 owned) ∧ (bucketAt 4 owned).restartPending = false
      ∧ ((bucketAt 4 owned).ports.get .a).state = .synced ∧ 4 ≤ ((bucketAt 4 owned).ports.get .a).bucket)
    ∧ (3 : Byte).toNat < 4 := by decide

theorem witness_SlotSetupAndLoadFillSlots :
    (Accepts req owned ∧ FromOwner req owned ∧ (20 : Half) ≠ 0 ∧ 32 ≤ (32 : Byte).toNat ∧ 4 ≤ (4 : Byte).toNat
      ∧ 3 ≤ (3 : Byte).toNat ∧ half 0 0 = 0)
    ∧ (∀ b, b ∈ ([.unused, .answer answerSlot, .beacon (beaconSlot none)] : List SlotBody) →
      Accepts req (slot4 b owned) ∧ FromOwner req (slot4 b owned) ∧ (slot4 b owned).slots[(4 : Fin 32)].body = b) := by
  decide

/-- Four other slots held. -/
def fourHeld (s : State) : State := { s with holdList := [0, 1, 2, 3] }

theorem witness_HoldReadPlacesOrRestartsHold :
    ∀ b, b ∈ ([.unused, .capture .empty, .capture (.full (record 1) true), .capture (.held (record 1) true none 1)] : List SlotBody) →
      Accepts req (slot4 b owned) ∧ FromOwner req (slot4 b owned) ∧ (slot4 b owned).slots[(4 : Fin 32)].body = b
      ∧ (slot4 b owned).holdList.length < 4 ∧ Accepts req (fourHeld (slot4 b owned)) ∧ FromOwner req (fourHeld (slot4 b owned))
      ∧ 4 ≤ (fourHeld (slot4 b owned)).holdList.length := by
  decide

theorem witness_ReleaseConsumesHeldRecord :
    (Accepts req live ∧ live.owner = none)
    ∧ (Accepts other owned ∧ owned.owner = some { addr := 5, lease := 600, policy := .keep, port := .a } ∧ 5 ≠ other.src)
    ∧ (∀ b, b ∈ ([.unused, .capture .empty, .capture (.full (record 1) true), .capture (.held (record 1) true none 1),
        .capture (.held (record 1) true (some (record 2)) 1)] : List SlotBody) →
      Accepts req (slot4 b owned) ∧ FromOwner req (slot4 b owned) ∧ (slot4 b owned).slots[(4 : Fin 32)].body = b) := by
  decide

theorem witness_AckAndClearRemove :
    Accepts req owned ∧ FromOwner req owned ∧ (3 : Byte).toNat < 4 ∧ 4 ≤ (4 : Byte).toNat ∧ 8 ≤ (8 : Byte).toNat := by decide

theorem witness_RestartWaitsThenClears :
    (Accepts req owned ∧ FromOwner req owned ∧ owned.restartPending = false)
    ∧ (let s := { owned with restartPending := true, queues := ⟨queueOf [.mreply 5 0 1 [0x3F, 0] true], queueOf []⟩ };
      Accepts req s ∧ FromOwner req s ∧ s.restartPending = true)
    ∧ (let s := { sending (.injection true [] true) [] (queueOf []) owned with restartPending := true };
      s.resetPin = false ∧ s.restartPending = true ∧ (s.relay = .relay ∨ s.relay = .fallback)
      ∧ (s.paths.get (dirOut .a)).tx = .injection true [] true ∧ (s.paths.get (dirIn .a)).tx.isNamed = false
      ∧ ∀ q, ∀ x ∈ (s.queues.get q).entries, x.body.isNamed = false) := by
  have named : ∀ q, ∀ x ∈ (({ sending (.injection true [] true) [] (queueOf []) owned with restartPending := true } : State).queues.get
      q).entries, x.body.isNamed = false := by rintro (_ | _) <;> decide
  exact ⟨by decide, by decide, rfl, rfl, .inl rfl, rfl, rfl, named⟩

/-- A restart that waits for its reply: the reply in the queue of Port A, or the output of Port A at it. -/
def waiting (q : List EntryBody) (tx : Tx) (s : State) : State :=
  { sending tx [] (queueOf q) (bucketAt 15 s) with restartPending := true, timestamp := 500001 }

/-- The reply a restart waits for. -/
def lastReply : EntryBody := .mreply 5 0 1 [0x3F, 0] true

theorem witness_RestartWaitsThenClears_closing :
    let s := waiting [] (.closing true) (lineIn .bypass);
    s.resetPin = false ∧ s.restartPending = true ∧ s.relay = .bypass ∧ (s.paths.get (dirOut .a)).tx = .closing true
    ∧ (s.paths.get (dirIn .a)).tx.isNamed = false ∧ ∀ q, ∀ x ∈ (s.queues.get q).entries, x.body.isNamed = false := by
  refine ⟨rfl, rfl, rfl, rfl, rfl, ?_⟩
  rintro (_ | _) <;> decide

theorem witness_RestartWaitsThenClears_age :
    let s := waiting [lastReply] (.between 2) (atTick owned);
    s.resetPin = false ∧ s.restartPending = true ∧ s.due.one = true ∧ (∀ d, (s.paths.get d).tx.isNamed = false)
    ∧ (∀ p, ∀ x ∈ (s.queues.get p).entries, x.body.isNamed = true →
      s.settings.ageLimit.toNat * 1000 < (s.timestamp - x.time).toNat)
    ∧ ∀ x ∈ (s.queues.get (otherPort .a)).entries, x.body.isNamed = false := by
  refine ⟨rfl, rfl, rfl, ?_, ?_, by decide⟩ <;> rintro (_ | _) <;> decide

theorem witness_RestartWaitsThenClears_bypass :
    (∀ x, x ∈ ([([lastReply], .between 2), ([], .injection false [1] true), ([], .injection true [1] true)] :
        List (List EntryBody × Tx)) →
      let s := waiting x.1 x.2 owned;
      s.resetPin = false ∧ s.restartPending = true ∧ s.relay ≠ .bypass ∧ (s.rx.get .a).delim = .gap
      ∧ (s.settings.bucketLimit.get .a).toNat ≤ (s.ports.get .a).bucket + 1 ∧ (s.paths.get (dirIn .a)).tx = .between 2
      ∧ (s.paths.get (dirIn .b)).tx = x.2)
    ∧ (∀ q, ((waiting [] (.between 2) owned).ports.get q).state = .synced)
    ∧ ∀ d m, ((waiting [] (.injection true [1] true) owned).paths.get d).tx ≠ .closing m := by
  refine ⟨by decide, ?_, ?_⟩ <;> rintro (_ | _) <;> decide

theorem witness_RequestsPassTheGateInOrder :
    (live.resetPin = false ∧ restartDue live = false ∧ live.relay = .relay ∧ (live.queues.get .a).occupancy < 16
      ∧ (lineIn .joining).relay ≠ .relay ∧ (lineIn .joining).relay ≠ .fallback)
    ∧ ¬({ live with queues := ⟨queueOf (List.replicate 16 (.assign 1)), queueOf []⟩ }.queues.get .a).occupancy < 16
    ∧ (let s := { owned with cache := [{ manager := 5, seq := 1, reply := none }, { manager := 6, seq := 1, reply := some [1, 0] }] };
      s.cache.find? (fun x => decide (x.manager = req.src) && decide (x.seq = req.seq))
        = some { manager := 5, seq := 1, reply := none }
      ∧ s.cache.find? (fun x => decide (x.manager = other.src) && decide (x.seq = other.seq))
        = some { manager := 6, seq := 1, reply := some [1, 0] })
    ∧ (Accepts req owned ∧ Accepts other owned ∧ Accepts req live
      ∧ owned.owner = some { addr := 5, lease := 600, policy := .keep, port := .a } ∧ 5 ≠ other.src)
    ∧ (([4, 0, 0, 1] : List Byte) = 4 :: 0 :: 0 :: [1] ∧ ([1] : List Byte) ≠ [] ∧ ([1] : List Byte).length ≠ 2) := by decide

theorem witness_AssignSetsAddressAndGoesOn :
    (∀ q, q = [] ∨ q = List.replicate 16 (EntryBody.beacon 4) →
      let s := { live with queues := ⟨queueOf [], queueOf q⟩ };
      s.resetPin = false ∧ s.relay = .relay ∧ (∀ x ∈ (s.queues.get (otherPort .a)).entries, ∀ b, x.body ≠ .assign b))
    ∧ (queueOf []).occupancy < 16 ∧ 16 ≤ (queueOf (List.replicate 16 (.beacon 4))).occupancy
    ∧ (queueOf [.beacon 4, .assign 1]).entries = [{ body := .beacon 4, time := 0 }] ++ { body := .assign 1, time := 0 } :: []
    ∧ (∀ x ∈ [({ body := .beacon 4, time := 0 } : QEntry)] ++ [], ∀ c, x.body ≠ .assign c)
    ∧ (lineIn .bypass).relay = .bypass := by
  refine ⟨?_, by decide, by decide, by decide, by simp, by decide⟩
  rintro q (rfl | rfl) <;> exact ⟨rfl, rfl, by simp [PerPort.get, otherPort, queueOf]⟩

theorem witness_StepKeepsQueuesOk : QueuesOk State.reset ∧ step State.reset = .next State.reset := by
  refine ⟨{ bound := ?_, slots := ?_, assign := ?_, notice := by decide }, rfl⟩ <;> rintro (_ | _) <;> decide

theorem witness_StepKeepsSessionsAndHolds :
    AgentOk State.reset ∧ HoldsOk State.reset ∧ step State.reset = .next State.reset := by
  refine ⟨{ cacheBound := ?_, cacheDistinct := ?_, cacheManager := nofun, ownerAddr := nofun, ownerLease := nofun, ownAddr := ?_ },
    { bound := ?_, distinct := ?_, held := ?_, unowned := ?_ }, rfl⟩ <;> decide

theorem witness_StepKeepsLineOk : LineOk State.reset ∧ step State.reset = .next State.reset := by
  have cold : ∀ p, (State.reset.ports.get p).coolDown ≠ none ↔ (State.reset.ports.get p).state = .fault := by
    rintro (_ | _) <;> decide
  have empty : ∀ p, State.reset.queues.get p = { entries := [], held := false } := by rintro (_ | _) <;> rfl
  have quiet : ∀ d, (State.reset.paths.get d).store = [] ∧ (State.reset.paths.get d).flight = none := by
    rintro (_ | _) <;> decide
  exact ⟨{ synced := nofun, released := nofun, settle := by decide, coolDown := cold, noOwner := nofun, noRelay := nofun,
           fallback := nofun, queues := fun _ => empty, paths := fun _ => quiet, stopped := nofun, running := nofun,
           inReset := by decide }, rfl⟩

theorem witness_StepKeepsTableAndRanges :
    TableOk State.reset ∧ RestartWaits State.reset ∧ LineOk State.reset ∧ RangesOk State.reset := by
  have cleared : ∀ (k : BankId) (i : Fin 64), (State.reset.engine.bank k)[i] = Entry.cleared := by
    rintro (_ | _) i <;> simp [State.reset, MatchEngine.reset, MatchEngine.bank]
  refine ⟨fun k i => ?_, rfl, witness_StepKeepsLineOk.1,
    { limit := ?_, holdTime := ?_, repeat_ := ?_, ageLimit := ?_, bucket := ?_, highWater := ?_, divider := ?_,
      due1 := nofun, due10 := nofun, due100 := nofun }⟩
  · rw [cleared]
    exact ⟨rfl, by decide, nofun, nofun⟩
  all_goals first | decide | (rintro (_ | _) <;> decide)

theorem witness_NothingIsReconfiguredWithoutOwner :
    Instr.entryClear req [0] ≠ .resetAssert ∧ live.owner = none ∧ live.engine.copy = .idle
    ∧ ∃ t, exec (.entryClear req [0]) live = .next t := ⟨nofun, rfl, rfl, _, rfl⟩

theorem witness_ActiveBankChangesOnlyBySwap :
    (∃ t, exec (.entryClear req [0]) owned = .next t ∧ t.engine.selector = owned.engine.selector)
    ∧ Instr.receiveEof .a ≠ .resetAssert ∧ (∀ e ps, Instr.receiveEof .a ≠ .bankSwap e ps)
    ∧ (∀ e ps, Instr.receiveEof .a ≠ .unknownRequest e 0x14 ps)
    ∧ (let s := agentEnding .consumeAgent (.request false) [1];
      (∀ x, s.inbox.get .a = some x → x.kind = .request false → x.payload.head? ≠ some 0x14)
      ∧ ∃ t, exec (.receiveEof .a) s = .next t) := by
  refine ⟨⟨_, rfl, rfl⟩, nofun, fun _ _ => nofun, fun _ _ => nofun, ?_, _, rfl⟩
  rintro x ⟨⟩ -
  decide

theorem witness_DecisionStandsToFrameEnd :
    receivesOn .a (.receiveEof .b) = false ∧ ∃ t, exec (.receiveEof .b) (ending .forward .none) = .next t := ⟨rfl, _, rfl⟩

end Sys2Proof.Tests
end

section
/-! SUPPORT and proofs of the chain line: the frame check (R7), full reset, the transmitter, the receivers from GAP to a frame's end.
A proof goes through the equations of the operations; what an operation leaves unchanged is its frame lemma. -/

namespace Sys2Proof.Machine

/-! ## Laws of the state that several parts use -/

/-- What a replacement in one direction keeps, it keeps in every direction. -/
theorem PerDir.map_get_set {α β : Type} (f : α → β) (x : PerDir α) {d : Dir} {a : α} (h : f a = f (x.get d)) (e : Dir) :
    f ((x.set d a).get e) = f (x.get e) := by
  rw [PerDir.get_set]; split
  · subst e; exact h
  · rfl

theorem PerPort.set_of_get_eq {α : Type} {p : Port} {y : PerPort α} {a : α} (h : y.get p = a) : y.set p a = y := by
  rw [← h, PerPort.set_get_self]

theorem PerPort.get_set_otherPort {α : Type} (x : PerPort α) (p : Port) (a : α) :
    (x.set p a).get (otherPort p) = x.get (otherPort p) := PerPort.get_set_of_ne x a (otherPort_ne p).symm

@[simp] theorem State.setPath_setPath (s : State) (d : Dir) (x y : RelayPath) : (s.setPath d x).setPath d y = s.setPath d y := by
  simp [State.setPath]

theorem State.setPath_self (s : State) (d : Dir) : s.setPath d (s.paths.get d) = s := by simp [State.setPath]

theorem State.setPort_self (s : State) (p : Port) : s.setPort p (s.ports.get p) = s := by simp [State.setPort]

theorem relays_iff {r : RelayState} : r.relays = true ↔ r = .relay ∨ r = .fallback := by cases r <;> decide

/-! ## When a restart is due (R169) -/

section
variable {p : Port} {s : State}

/-- R169: whether a restart is due rests on the mark, the queues and the transmitters alone. -/
theorem restartDue_eq {s t : State} (pending : t.restartPending = s.restartPending) (queues : t.queues = s.queues)
    (tx : ∀ d, (t.paths.get d).tx.isNamed = (s.paths.get d).tx.isNamed) : restartDue t = restartDue s := by
  have ab := tx .ab
  have ba := tx .ba
  simp only [PerDir.get] at ab ba
  simp [restartDue, pending, queues, ab, ba]

theorem restartDue_setPaths {w : PerDir RelayPath} (h : ∀ d, (w.get d).tx.isNamed = (s.paths.get d).tx.isNamed) :
    restartDue { s with paths := w } = restartDue s := restartDue_eq rfl rfl h

theorem settleRestart_of_not_pending (h : s.restartPending = false) : settleRestart s = s :=
  settleRestart_of_not_due (restartDue_of_not_pending h)

theorem restartDue_place {b : EntryBody} (hb : b.isNamed = false) : restartDue (place p b s) = restartDue s := by
  unfold place
  split
  · cases p <;> simp [restartDue, PerPort.set, PerPort.get, hb]
  · rfl

theorem restartDue_offerNotice (s : State) : restartDue (offerNotice s) = restartDue s := by
  obtain h | ⟨o, -, h⟩ := offerNotice_cases s
  · rw [h]
  · rw [h, restartDue_place rfl]

theorem restartDue_slotEvent (n : Fin 32) (s : State) : restartDue (slotEvent n s) = restartDue s := by
  unfold slotEvent
  split
  · exact restartDue_offerNotice _
  · rfl

theorem restartDue_captureCommit (n : Fin 32) (r : CapturedRecord) (s : State) :
    restartDue (captureCommit n r s) = restartDue s := by
  unfold captureCommit
  split
  iterate 4 exact restartDue_slotEvent _ _
  rfl

theorem restartDue_learnCommit (n : Fin 32) (payload : List Byte) (aux : Byte) (s : State) :
    restartDue (learnCommit n payload aux s) = restartDue s := by
  unfold learnCommit
  split
  · exact restartDue_slotEvent _ _
  · rfl

theorem restartDue_joinedAfterEnd (p : Port) (s u : State) : restartDue (joinedAfterEnd p s u) = restartDue u := by
  unfold joinedAfterEnd; split <;> rfl

end

/-! ## Places of a detour store (R35, R47) -/

section
variable {s : State}

theorem occupancy_append (fs gs : List StoredFrame) : occupancy (fs ++ gs) = occupancy fs + occupancy gs := by
  induction fs with
  | nil => simp [occupancy]
  | cons f fs ih => simp [occupancy, ih]; omega

theorem raiseMark_of_le {mark old new : Nat} (h : new ≤ old) : raiseMark mark old new = mark := by
  simp [raiseMark, Nat.not_lt.mpr h]

theorem raiseMark_succ (mark old : Nat) : raiseMark mark old (old + 1) = max mark (min (old + 1) 96) := by simp [raiseMark]

/-- R47: the high-water mark stands where the store gets no fuller. -/
theorem State.setStore_of_le {d : Dir} {fs : List StoredFrame}
    (h : occupancy fs ≤ occupancy (s.paths.get d).store) : s.setStore d fs = s.setPath d { s.paths.get d with store := fs } := by
  simp only [State.setStore, raiseMark_of_le h]

/-- R35, R47: one more place raises the high-water mark to the new occupancy, up to 96. -/
theorem State.setStore_of_succ {d : Dir} {fs : List StoredFrame} (h : occupancy fs = occupancy (s.paths.get d).store + 1) :
    s.setStore d fs = s.setPath d { s.paths.get d with
      store := fs
      highWater := max (s.paths.get d).highWater (min (occupancy (s.paths.get d).store + 1) 96) } := by
  simp only [State.setStore, h, raiseMark_succ]

theorem State.setStore_pushMark {d : Dir} {m : EndMark} {fs : List StoredFrame} {y : StoredFrame}
    (h : (s.paths.get d).store = fs ++ [{ y with mark := none }]) :
    s.setStore d (pushMark m (s.paths.get d).store) = s.setPath d { s.paths.get d with
      store := fs ++ [{ y with mark := some m }]
      highWater := max (s.paths.get d).highWater (min (occupancy (s.paths.get d).store + 1) 96) } := by
  have pushed := pushMark_append m { y with mark := none } fs
  rw [← h] at pushed
  rw [pushed]
  exact State.setStore_of_succ (by simp [h, occupancy_append, occupancy, StoredFrame.places]; omega)

theorem State.setStore_pushByte {d : Dir} {b : Byte} {fs : List StoredFrame} {y : StoredFrame}
    (h : (s.paths.get d).store = fs ++ [y]) :
    s.setStore d (pushByte b (s.paths.get d).store) = s.setPath d { s.paths.get d with
      store := fs ++ [{ y with bytes := y.bytes ++ [b] }]
      highWater := max (s.paths.get d).highWater (min (occupancy (s.paths.get d).store + 1) 96) } := by
  have pushed := pushByte_append b y fs
  rw [← h] at pushed
  rw [pushed]
  exact State.setStore_of_succ (by simp [h, occupancy_append, occupancy, StoredFrame.places]; omega)

end

/-! ## The frame check (R7) -/

/-- The first n bits of a word, most significant first: the order in which R7 takes them. -/
def topBits {w : Nat} (v : BitVec w) (n : Nat) : List Bool := (List.range n).map v.getMsbD

theorem topBits_succ {w : Nat} (v : BitVec w) (n : Nat) : topBits v (n + 1) = v.msb :: topBits (v <<< 1) n := by
  simp only [topBits, List.range_succ_eq_map, List.map_cons, List.map_map, BitVec.msb]
  refine congrArg (_ :: ·) (List.map_congr_left fun i hi => ?_)
  rw [BitVec.getMsbD_shiftLeft]
  simp

theorem getMsbD_half (x y : Byte) (i : Nat) :
    (half x y).getMsbD i = if i < 8 then x.getMsbD i else y.getMsbD (i - 8) :=
  (BitVec.getMsbD_append (x := x) (y := y)).trans (by grind)

theorem topBits_half (x y : Byte) : topBits (half x y) 16 = topBits x 8 ++ topBits y 8 := by
  refine List.ext_getElem (by simp [topBits]) fun i hi _ => ?_
  simp [topBits, List.getElem_append, getMsbD_half]

theorem topBits_injective {x y : Half} : topBits x 16 = topBits y 16 ↔ x = y := by
  refine ⟨fun h => BitVec.eq_of_getMsbD_eq fun i hi => ?_, fun h => h ▸ rfl⟩
  simpa [topBits, hi] using congrArg (·[i]?) h

theorem checkBit_msb (r : Half) : checkBit r r.msb = r <<< 1 := by simp [checkBit]

/-- The feedback 1021H sets the lowest bit, so a register that ends clear from bit n up was shifted and not fed back. -/
theorem checkBit_shiftLeft_eq_zero_iff {n : Nat} (h : n < 16) (r : Half) (bit : Bool) :
    checkBit r bit <<< n = 0 ↔ bit = r.msb ∧ r <<< 1 <<< n = 0 := by
  by_cases hb : bit = r.msb
  · simp [hb, checkBit_msb]
  · have low : (checkBit r bit <<< n).getLsbD n = true := by
      have feedback : (r.msb != bit) = true := bne_iff_ne.mpr (Ne.symm hb)
      simp [checkBit, feedback, h]
    refine ⟨fun h0 => ?_, fun ⟨he, _⟩ => absurd he hb⟩
    rw [h0] at low
    simp at low

/-- R7: bits run through a register leave its low 16 - n bits clear exactly when they are its own top bits and the rest of it is
clear. -/
theorem foldl_checkBit_shiftLeft_eq_zero_iff (bits : List Bool) (r : Half) {n : Nat} (h : n + bits.length ≤ 16) :
    bits.foldl checkBit r <<< n = 0 ↔ bits = topBits r bits.length ∧ r <<< (n + bits.length) = 0 := by
  induction bits generalizing r with
  | nil => simp [topBits]
  | cons bit bits ih =>
    rw [List.length_cons] at h
    rw [List.foldl_cons, ih _ (by omega), checkBit_shiftLeft_eq_zero_iff (by omega), List.length_cons, topBits_succ,
      List.cons.injEq, ← BitVec.shiftLeft_add, Nat.add_comm 1, Nat.add_assoc]
    constructor
    · rintro ⟨hrest, rfl, hzero⟩
      exact ⟨⟨rfl, checkBit_msb r ▸ hrest⟩, hzero⟩
    · rintro ⟨⟨rfl, hrest⟩, hzero⟩
      exact ⟨(checkBit_msb r).symm ▸ hrest, rfl, hzero⟩

theorem checkByte_eq_foldl (r : Half) (b : Byte) : checkByte r b = (topBits b 8).foldl checkBit r := rfl

/-- R7: after two bytes more a register holds 0 exactly when they are what it held. -/
theorem checkByte_checkByte_eq_zero_iff (r : Half) (x y : Byte) : checkByte (checkByte r x) y = 0 ↔ half x y = r := by
  have run : checkByte (checkByte r x) y = (topBits (half x y) 16).foldl checkBit r <<< 0 := by
    rw [topBits_half, List.foldl_append, ← checkByte_eq_foldl, ← checkByte_eq_foldl, BitVec.shiftLeft_zero]
  have cleared : r <<< 16 = 0 := BitVec.shiftLeft_eq_zero le_rfl
  have length : (topBits (half x y) 16).length = 16 := by simp [topBits]
  rw [run, foldl_checkBit_shiftLeft_eq_zero_iff _ _ (by omega), length, topBits_injective]
  exact and_iff_left cleared

theorem toNat_half (x y : Byte) : (half x y).toNat = 256 * x.toNat + y.toNat := by
  have := (BitVec.toNat_append x y).trans (Nat.shiftLeft_add_eq_or_of_lt y.isLt x.toNat).symm
  rw [Nat.shiftLeft_eq] at this
  exact this.trans (by omega)

/-- R181: two bytes are the bytes of a field exactly when the field is made of them. -/
theorem bytes_eq_bytes16_iff (x y : Byte) (r : Half) : [x, y] = bytes16 r ↔ half x y = r := by
  simp only [bytes16, List.cons.injEq, and_true, ← BitVec.toNat_inj, BitVec.extractLsb'_toNat, toNat_half]
  have := r.isLt
  have := y.isLt
  have := x.isLt
  rw [Nat.shiftRight_eq_div_pow]
  omega

/-- Settles O11: a zero residue of 16 bits says that each bit taken was the top bit of the register at its turn. -/
theorem checkResidueIsZero : Obligations.CheckResidueIsZero := by
  intro bs x y
  rw [checkByte_checkByte_eq_zero_iff, bytes_eq_bytes16_iff]

/-! ## Full reset -/

theorem reset_bank (k : BankId) (i : Fin 64) : (State.reset.engine.bank k)[i] = Entry.cleared := by
  cases k <;> simp [State.reset, MatchEngine.reset, MatchEngine.bank]

theorem reset_slot (n : Fin 32) : State.reset.slots[n] = Slot.reset := by simp [State.reset]

theorem reset_queue (p : Port) : State.reset.queues.get p = { entries := [], held := false } := by cases p <;> rfl

theorem reset_port (p : Port) : State.reset.ports.get p = .reset := by cases p <;> rfl

theorem reset_rx (p : Port) : State.reset.rx.get p = .reset := by cases p <;> rfl

theorem reset_path (d : Dir) : State.reset.paths.get d = .reset := by cases d <;> rfl

theorem queuesOk_reset : QueuesOk State.reset where
  bound p := by rw [reset_queue]; decide
  slots p := by rw [reset_queue]; exact .nil
  assign p := by rw [reset_queue]; decide
  notice := by decide

theorem agentOk_reset : AgentOk State.reset where
  cacheBound := by decide
  cacheDistinct := .nil
  cacheManager := nofun
  ownerAddr := nofun
  ownerLease := nofun
  ownAddr := by decide

theorem holdsOk_reset : HoldsOk State.reset where
  bound := by decide
  distinct := .nil
  held n := by rw [reset_slot]; exact ⟨nofun, nofun⟩
  unowned _ := rfl

theorem lineOk_reset : LineOk State.reset where
  synced h := absurd rfl h
  released h := absurd rfl h
  settle := by decide
  coolDown p := by rw [reset_port]; decide
  noOwner _ := rfl
  noRelay := nofun
  fallback := nofun
  queues _ := reset_queue
  paths _ d := by rw [reset_path]; exact ⟨rfl, rfl⟩
  stopped := nofun
  running := nofun
  inReset _ := ⟨rfl, rfl, rfl, rfl⟩

theorem tableOk_reset : TableOk State.reset := fun k i => by
  rw [reset_bank]
  exact ⟨rfl, nofun, nofun, nofun⟩

theorem rangesOk_reset : RangesOk State.reset where
  limit p := by cases p <;> decide
  holdTime := by decide
  repeat_ := by decide
  ageLimit := by decide
  bucket p := by cases p <;> decide
  highWater d := by rw [reset_path]; decide
  divider := by decide
  due1 := nofun
  due10 := nofun
  due100 := nofun

theorem restartWaits_reset : RestartWaits State.reset := rfl

/-- Settles O3: the values are read off the reset state, and each invariant is checked on them. -/
theorem fullResetValues : Obligations.FullResetValues := by
  refine ⟨rfl, rfl, rfl, rfl, rfl, rfl, rfl, rfl, fun p => ?port, fun p => ?receiver, fun d => ?path, reset_bank,
    rfl, rfl, rfl, rfl, reset_slot, rfl, reset_queue, rfl, rfl, rfl, rfl, rfl, rfl, rfl, rfl, rfl, rfl,
    queuesOk_reset, agentOk_reset, holdsOk_reset, lineOk_reset, tableOk_reset, rangesOk_reset, restartWaits_reset⟩
  case port => rw [reset_port]; exact ⟨rfl, rfl, rfl, rfl⟩
  case receiver => rw [reset_rx]; exact ⟨rfl, rfl, rfl, rfl, rfl, rfl⟩
  case path => rw [reset_path]; exact ⟨rfl, rfl, rfl, rfl⟩

/-! ## The choice at a FREE output (R49) -/

section
variable {p : Port} {s : State}

theorem selectEntry_of_none_ready {es : List QEntry} (h : ∀ x ∈ es, x.body.isReady = false) : selectEntry es = none := by
  have none_of (k : Nat) : takeFirst (fun e : QEntry => e.body.isReady && e.body.cls == k) es = none :=
    takeFirst_none.mpr fun x hx => by simp [h x hx]
  simp [selectEntry, none_of]

theorem arbitrate_of_busy (h : (s.paths.get (dirOut p)).tx.isFree = false) : arbitrate p s = s := by
  simp [arbitrate, canStartThrough, canInject, mayStart, h]

theorem arbitrate_of_no_choice (hstore : (s.paths.get (dirOut p)).store = [])
    (h : (s.rx.get (otherPort p)).delim ≠ .gap ∨ ∀ x ∈ (s.queues.get p).entries, x.body.isReady = false) :
    arbitrate p s = s := by
  rcases h with h | h
  · simp [arbitrate, canStartThrough, canInject, hstore, h]
  · simp [arbitrate, canStartThrough, hstore, selectEntry_of_none_ready h]

theorem arbitrate_of_stored (hrelay : s.relay.relays = true) (htx : (s.paths.get (dirOut p)).tx.isFree = true)
    (hstore : (s.paths.get (dirOut p)).store ≠ []) : arbitrate p s = startThrough p s := by
  simp [arbitrate, canStartThrough, mayStart, hrelay, htx, hstore]

theorem canInject_of_selects {x : QEntry} {rest : List QEntry} (h : Selects p x rest s) : canInject p s = true := by
  obtain ⟨-, hrelay, htx, hstore, hrx, -⟩ := h
  simp [canInject, mayStart, relays_iff.mpr hrelay, htx, Tx.isFree, hstore, hrx]

theorem arbitrate_of_selects {x : QEntry} {rest : List QEntry} (h : Selects p x rest s) :
    arbitrate p s = moveOut p x rest s := by
  have hinject := canInject_of_selects h
  obtain ⟨-, -, -, hstore, -, hselect⟩ := h
  simp [arbitrate, canStartThrough, hstore, hinject, hselect]

theorem exec_moveOutRow (x : QEntry) : exec (moveOutRow p x.body) s = .next (moveOutFrom x.body.source p s) := by
  unfold moveOutRow
  cases x.body.source <;> rfl

theorem exec_moveOutRow_of_selects {x : QEntry} {rest : List QEntry} (h : Selects p x rest s) :
    exec (moveOutRow p x.body) s = .next (moveOut p x rest s) := by
  have hinject := canInject_of_selects h
  obtain ⟨hreset, -, -, -, -, hselect⟩ := h
  rw [exec_moveOutRow]
  simp [moveOutFrom, hinject, hreset, hselect, EntryBody.isFrom]

theorem startInjection_tx (bs : List Byte) (named : Bool) :
    ((startInjection p bs named s).paths.get (dirOut p)).tx = .injection false bs named := by simp [startInjection]

/-- R125: the frame of any entry is handed to the transmitter; RESET and the relay state stand. -/
theorem startEntry_starts (b : EntryBody) (s : State) :
    (startEntry p b s).resetPin = s.resetPin ∧ (startEntry p b s).relay = s.relay
    ∧ ∃ bs m, ((startEntry p b s).paths.get (dirOut p)).tx = .injection false bs m := by
  cases b with
  | answer | mreply | notice | assign => exact ⟨rfl, rfl, _, _, startInjection_tx _ _⟩
  | beacon n =>
    simp only [startEntry, moveBeacon]
    split
    · exact ⟨rfl, rfl, _, _, startInjection_tx _ _⟩
    · exact ⟨rfl, rfl, _, _, startInjection_tx _ _⟩

theorem countInjected_frame (x : Source) : countInjected p x s = { s with dirStats := (countInjected p x s).dirStats } := by
  cases x <;> rfl

theorem moveOut_starts (x : QEntry) (rest : List QEntry) :
    (moveOut p x rest s).resetPin = s.resetPin ∧ (moveOut p x rest s).relay = s.relay
    ∧ ∃ bs m, ((moveOut p x rest s).paths.get (dirOut p)).tx = .injection false bs m := by
  unfold moveOut
  rw [countInjected_frame]
  exact startEntry_starts _ _

/-! ## One byte time of a transmitter -/

/-- R14: the transmitter of a port has sent a symbol and stands at tx, its detour store at fs. -/
def withSent (p : Port) (x : Symbol) (tx : Tx) (fs : List StoredFrame) (s : State) : State :=
  { s with paths := s.paths.set (dirOut p) { s.paths.get (dirOut p) with line := some x, tx := tx, store := fs } }

theorem sendSymbol_eq (x : Symbol) (tx : Tx) :
    sendSymbol p x tx s = withSent p x tx (s.paths.get (dirOut p)).store s := rfl

theorem setStore_sendSymbol (x : Symbol) (tx : Tx) {fs : List StoredFrame}
    (h : occupancy fs ≤ occupancy (s.paths.get (dirOut p)).store) :
    (sendSymbol p x tx s).setStore (dirOut p) fs = withSent p x tx fs s := by
  rw [State.setStore_of_le (by simpa [sendSymbol] using h)]
  simp [sendSymbol]
  rfl

theorem restartDue_withSent (x : Symbol) (tx : Tx) (fs : List StoredFrame)
    (h : tx.isNamed = (s.paths.get (dirOut p)).tx.isNamed) : restartDue (withSent p x tx fs s) = restartDue s :=
  restartDue_eq rfl rfl (PerDir.map_get_set (fun y => y.tx.isNamed) s.paths h)

theorem sendNext_between {n : Nat} (h : (s.paths.get (dirOut p)).tx = .between n) :
    sendNext p s = sendSymbol p .idle (.between (min 2 (n + 1))) s := by simp [sendNext, h]

theorem sendNext_through_start (h : (s.paths.get (dirOut p)).tx = .through false) :
    sendNext p s = sendSymbol p .sof (.through true) s := by simp [sendNext, h]

theorem sendNext_through_byte {b : Byte} {bs : List Byte} {m : Option EndMark} {fs : List StoredFrame}
    (htx : (s.paths.get (dirOut p)).tx = .through true)
    (hstore : (s.paths.get (dirOut p)).store = { bytes := b :: bs, mark := m } :: fs) :
    sendNext p s = withSent p (.data b) (.through true) ({ bytes := bs, mark := m } :: fs) s := by
  simp only [sendNext, htx, sendPlace, hstore]
  refine setStore_sendSymbol _ _ ?_
  rw [hstore]
  simp [occupancy, StoredFrame.places]

theorem sendNext_through_end {m : EndMark} {fs : List StoredFrame} (htx : (s.paths.get (dirOut p)).tx = .through true)
    (hstore : (s.paths.get (dirOut p)).store = { bytes := [], mark := some m } :: fs) : sendNext p s = sendMark p m fs s := by
  simp only [sendNext, htx, sendPlace, hstore]

theorem sendNext_injection_start {bs : List Byte} {m : Bool} (h : (s.paths.get (dirOut p)).tx = .injection false bs m) :
    sendNext p s = sendSymbol p .sof (.injection true bs m) s := by simp [sendNext, h]

theorem sendNext_injection_byte {b : Byte} {bs : List Byte} {m : Bool}
    (h : (s.paths.get (dirOut p)).tx = .injection true (b :: bs) m) :
    sendNext p s = sendSymbol p (.data b) (.injection true bs m) s := by simp [sendNext, h]

theorem sendNext_injection_end {m : Bool} (h : (s.paths.get (dirOut p)).tx = .injection true [] m) :
    sendNext p s = sendSymbol p .eof (.between 0) s := by simp [sendNext, h]

/-- R25: with no closing symbol left at this output, the BYPASS output looks at the other one. -/
theorem bypassPin_of_not_closing (w : RelayPath) (h : w.tx.isClosing = false) :
    { s.setPath (dirOut p) w with
      bypassPin := (s.setPath (dirOut p) w).bypassPin
        || !((s.setPath (dirOut p) w).paths.ab.tx.isClosing || (s.setPath (dirOut p) w).paths.ba.tx.isClosing) }
    = { s.setPath (dirOut p) w with bypassPin := s.bypassPin || !(s.paths.get (dirIn p)).tx.isClosing } := by
  cases p <;> simp [dirOut, dirIn, PerDir.set, PerDir.get, h]

theorem sendInBypass_of_closing (h : (s.paths.get (dirOut p)).tx.isClosing = true) :
    sendInBypass p s = { withSent p .abort (.between 2) (s.paths.get (dirOut p)).store s with
      bypassPin := s.bypassPin || !(s.paths.get (dirIn p)).tx.isClosing } := by
  rw [sendInBypass, if_pos h]
  exact bypassPin_of_not_closing _ rfl

theorem sendInBypass_of_not_closing (h : (s.paths.get (dirOut p)).tx.isClosing = false) :
    sendInBypass p s = { s with
      paths := s.paths.set (dirOut p) { s.paths.get (dirOut p) with line := none }
      bypassPin := s.bypassPin || !(s.paths.get (dirIn p)).tx.isClosing } := by
  rw [sendInBypass, if_neg (by rw [h]; decide)]
  exact bypassPin_of_not_closing _ h

theorem exec_transmitSymbol (hreset : s.resetPin = false) :
    exec (.transmitSymbol p) s = .next (settleRestart (transmit p s)) := by
  simp [exec, execTransmitSymbol, hreset]

theorem exec_transmitSymbol_in_bypass (hreset : s.resetPin = false) (h : s.relay = .bypass) :
    exec (.transmitSymbol p) s = .next (settleRestart (sendInBypass p s)) := by
  rw [exec_transmitSymbol hreset]
  simp [transmit, h]

theorem transmit_of_relays (h : s.relay.relays = true) : transmit p s = sendNext p (arbitrate p s) := by
  rcases relays_iff.mp h with h | h <;> simp [transmit, h]

theorem exec_transmitSymbol_withSent (hreset : s.resetPin = false) (hdue : restartDue s = false) {x : Symbol} {tx : Tx}
    {fs : List StoredFrame} (h : transmit p s = withSent p x tx fs s)
    (hnamed : tx.isNamed = (s.paths.get (dirOut p)).tx.isNamed) :
    exec (.transmitSymbol p) s = .next (withSent p x tx fs s) := by
  rw [exec_transmitSymbol hreset, h, settleRestart_of_not_due ((restartDue_withSent x tx fs hnamed).trans hdue)]

/-- R43, R53: the byte time of a through-frame's end symbol. -/
theorem exec_transmitSymbol_mark (hreset : s.resetPin = false) (hdue : restartDue s = false) (hrelay : s.relay.relays = true)
    {m : EndMark} {fs : List StoredFrame} (htx : (s.paths.get (dirOut p)).tx = .through true)
    (hstore : (s.paths.get (dirOut p)).store = { bytes := [], mark := some m } :: fs) :
    exec (.transmitSymbol p) s = .next ((withSent p (match m with | .eof => .eof | .abort => .abort) (.between 0) fs s).bumpDir
      (dirOut p) (fun c => match m with
        | .eof => { c with forwarded := satInc c.forwarded }
        | .abort => { c with poisoned := satInc c.poisoned })) := by
  have fuller : occupancy fs ≤ occupancy (s.paths.get (dirOut p)).store := by rw [hstore]; exact Nat.le_add_left _ _
  have named : (Tx.between 0).isNamed = (s.paths.get (dirOut p)).tx.isNamed := by rw [htx]; rfl
  rw [exec_transmitSymbol hreset, transmit_of_relays hrelay, arbitrate_of_busy (by rw [htx]; rfl),
    sendNext_through_end htx hstore]
  cases m with
  | eof =>
    simp only [sendMark, setStore_sendSymbol _ _ fuller]
    exact congrArg _ (settleRestart_of_not_due ((restartDue_withSent _ _ _ named).trans hdue))
  | abort =>
    simp only [sendMark, setStore_sendSymbol _ _ fuller]
    exact congrArg _ (settleRestart_of_not_due ((restartDue_withSent _ _ _ named).trans hdue))

/-- R49, R125: at a FREE output the transmitter moves the selected entry out as its own row does. -/
theorem exec_transmitSymbol_of_selects {x : QEntry} {rest : List QEntry} (h : Selects p x rest s) {t : State}
    (ht : exec (moveOutRow p x.body) s = .next t) :
    exec (.transmitSymbol p) s = exec (.transmitSymbol p) t
    ∧ ∃ bs m, (t.paths.get (dirOut p)).tx = .injection false bs m := by
  rw [exec_moveOutRow_of_selects h] at ht
  obtain rfl := Host.Outcome.next.inj ht
  obtain ⟨hreset, hrelay, bs, m, htx⟩ := moveOut_starts (p := p) (s := s) x rest
  refine ⟨?_, bs, m, htx⟩
  have relays : s.relay.relays = true := relays_iff.mpr h.2.1
  rw [exec_transmitSymbol h.1, exec_transmitSymbol (hreset.trans h.1), transmit_of_relays relays,
    transmit_of_relays (hrelay.symm ▸ relays), arbitrate_of_selects h, arbitrate_of_busy (by rw [htx]; rfl)]

end

/-- Settles O29, by relay state and transmitter state: each byte time is one equation of sendNext or sendInBypass. -/
theorem transmitterSendsSymbol : Obligations.TransmitterSendsSymbol := by
  intro p s hreset hdue path sent count run
  have sends {x : Symbol} {tx : Tx} {fs : List StoredFrame} (h : transmit p s = withSent p x tx fs s)
      (hnamed : tx.isNamed = path.tx.isNamed) : run = .next (sent x tx fs) :=
    exec_transmitSymbol_withSent hreset hdue h hnamed
  refine ⟨fun hrelay => ?relays, fun hjoining n htx => ?joining, fun hbypass htx => ?closing, fun hbypass htx => ?silent⟩
  case relays =>
    have relays := relays_iff.mpr hrelay
    have busy (h : path.tx.isFree = false) : transmit p s = sendNext p s := by
      rw [transmit_of_relays relays, arbitrate_of_busy h]
    refine ⟨fun n htx hn => ?gap, fun htx hstore hidle => ?idle, fun htx hstore => ?start,
      fun x rest t h ht => exec_transmitSymbol_of_selects h ht, fun htx => ?throughSof, fun b bs m fs htx hstore => ?throughByte,
      fun fs htx hstore => exec_transmitSymbol_mark hreset hdue relays htx hstore,
      fun fs htx hstore => exec_transmitSymbol_mark hreset hdue relays htx hstore,
      fun bs m htx => ?injectionSof, fun b bs m htx => ?injectionByte, fun htx => ?injectionEnd⟩
    case gap =>
      have hmin : min 2 (n + 1) = n + 1 := by omega
      refine sends ?_ (by rw [htx]; rfl)
      rw [busy (by simp [htx, Tx.isFree, hn]), sendNext_between htx, hmin, sendSymbol_eq]
    case idle =>
      refine sends ?_ (by rw [htx])
      rw [transmit_of_relays relays, arbitrate_of_no_choice hstore hidle, sendNext_between htx, sendSymbol_eq, hstore]
      rfl
    case start =>
      refine sends ?_ (by rw [htx]; rfl)
      rw [transmit_of_relays relays, arbitrate_of_stored relays (by rw [htx]; rfl) hstore,
        sendNext_through_start (by simp [startThrough])]
      simp [sendSymbol, startThrough, path]
      rfl
    case throughSof => exact sends ((busy (by rw [htx]; rfl)).trans (sendNext_through_start htx)) (by rw [htx]; rfl)
    case throughByte => exact sends ((busy (by rw [htx]; rfl)).trans (sendNext_through_byte htx hstore)) (by rw [htx])
    case injectionSof => exact sends ((busy (by rw [htx]; rfl)).trans (sendNext_injection_start htx)) (by rw [htx]; rfl)
    case injectionByte => exact sends ((busy (by rw [htx]; rfl)).trans (sendNext_injection_byte htx)) (by rw [htx]; rfl)
    case injectionEnd => exact sends ((busy (by rw [htx]; rfl)).trans (sendNext_injection_end htx)) (by rw [htx]; rfl)
  case joining =>
    refine sends ?_ (by rw [htx]; rfl)
    simp only [transmit, hjoining]
    exact sendNext_between htx
  case closing =>
    have named : (Tx.between 2).isNamed = path.tx.isNamed := by rw [htx]; rfl
    simp only [run, exec_transmitSymbol_in_bypass hreset hbypass]
    rw [sendInBypass_of_closing (show path.tx.isClosing = true by rw [htx]; rfl)]
    exact congrArg _ (settleRestart_of_not_due ((restartDue_withSent _ _ _ named).trans hdue))
  case silent =>
    simp only [run, exec_transmitSymbol_in_bypass hreset hbypass]
    rw [sendInBypass_of_not_closing htx]
    have tx := PerDir.map_get_set (fun y => y.tx.isNamed) s.paths (d := dirOut p) (a := { path with line := none }) rfl
    refine congrArg _ (settleRestart_of_not_due (Eq.trans ?_ hdue))
    exact restartDue_eq rfl rfl tx

/-! ## One byte time of a receiver -/

section
variable {p : Port} {x : LineEvent} {cls : EndClass} {s : State}

/-- The command that delivers a byte time to a port's receiver. -/
def delivery (p : Port) : LineEvent → Instr
  | .symbol .sof => .receiveSof p
  | .symbol (.data b) => .receiveDataByte p b
  | .symbol .eof => .receiveEof p
  | .symbol .abort => .receiveAbort p
  | .symbol .idle => .receiveIdle p
  | .codeError => .codeError p

@[simp] theorem delivery_eq_receiveSof_iff : delivery p x = .receiveSof p ↔ x = .symbol .sof := by
  rcases x with (_ | _ | _ | _ | _) | _ <;> simp [delivery]

@[simp] theorem delivery_eq_codeError_iff : delivery p x = .codeError p ↔ x = .codeError := by
  rcases x with (_ | _ | _ | _ | _) | _ <;> simp [delivery]

theorem exec_delivery : exec (delivery p x) s = receiveRow p x s := by
  rcases x with (_ | _ | _ | _ | _) | _ <;> rfl

theorem exec_delivery_of_synced (hreset : s.resetPin = false) (hsynced : (s.ports.get p).state = .synced) :
    exec (delivery p x) s = .next (settleRestart (delimit p x (countCodeError p x s))) := by
  simp [exec_delivery, receiveRow, hreset, receive, hsynced]

theorem exists_delivery_of_receivesOn {c : Instr} (h : receivesOn p c = true) : ∃ x, c = delivery p x := by
  cases c with
  | receiveSof q => exact ⟨.symbol .sof, by rw [of_decide_eq_true h]; rfl⟩
  | receiveDataByte q b => exact ⟨.symbol (.data b), by rw [of_decide_eq_true h]; rfl⟩
  | receiveEof q => exact ⟨.symbol .eof, by rw [of_decide_eq_true h]; rfl⟩
  | receiveAbort q => exact ⟨.symbol .abort, by rw [of_decide_eq_true h]; rfl⟩
  | receiveIdle q => exact ⟨.symbol .idle, by rw [of_decide_eq_true h]; rfl⟩
  | codeError q => exact ⟨.codeError, by rw [of_decide_eq_true h]; rfl⟩
  | _ => cases h

/-- R13, R178: a port's counters after a byte time, which counts if it is a code error. -/
def withError (x : LineEvent) (c : PortCounters) : PortCounters := if x = .codeError then countedError c else c

theorem countCodeError_eq (p : Port) (x : LineEvent) (s : State) :
    countCodeError p x s = { s with portStats := s.portStats.set p (withError x (s.portStats.get p)) } := by
  unfold countCodeError withError
  split
  · rfl
  · simp

theorem countCodeError_of_ne (h : x ≠ .codeError) : countCodeError p x s = s := by simp [countCodeError, h]

theorem countCodeError_symbol (p : Port) (y : Symbol) (s : State) : countCodeError p (.symbol y) s = s :=
  countCodeError_of_ne nofun

/-- The statements count by the command, the model by the byte time: the two agree. -/
theorem ite_codeError_eq_errorCount : (if delivery p x = .codeError p then 1 else 0) = errorCount x := by
  simp [errorCount]

theorem ite_codeError_eq_withError (c : PortCounters) :
    (if delivery p x = .codeError p then countedError c else c) = withError x c := by
  simp [withError]

/-! ## The error bucket (R20) -/

@[simp] theorem bucketAdd_zero : bucketAdd p 0 s = s := by simp [bucketAdd]

theorem bucketAdd_of_lt {n : Nat} (hsynced : (s.ports.get p).state = .synced)
    (h : (s.ports.get p).bucket + n < (s.settings.bucketLimit.get p).toNat) :
    bucketAdd p n s = s.setPort p { s.ports.get p with bucket := (s.ports.get p).bucket + n } := by
  cases n with
  | zero => exact bucketAdd_zero.trans (State.setPort_self s p).symm
  | succ n => simp [bucketAdd, hsynced, Nat.not_le.mpr h]

theorem bucketAdd_of_le {n : Nat} (hn : n ≠ 0) (hsynced : (s.ports.get p).state = .synced)
    (h : (s.settings.bucketLimit.get p).toNat ≤ (s.ports.get p).bucket + n) : bucketAdd p n s = enterFault [p] s := by
  simp [bucketAdd, hn, hsynced, h]

/-! ## GAP (R8) -/

theorem delimit_of_gap_sof (h : (s.rx.get p).delim = .gap) :
    delimit p (.symbol .sof) s = s.setRx p (startFrame s.timestamp (s.rx.get p)) := by simp [delimit, h]

theorem delimit_of_gap (h : (s.rx.get p).delim = .gap) (hx : x ≠ .symbol .sof) :
    delimit p x s = bucketAdd p (errorCount x) (s.setRx p (gapSymbol (s.rx.get p))) := by
  rcases x with (_ | _ | _ | _ | _) | _ <;> simp [delimit, h] at hx ⊢

theorem exec_delivery_of_gap (hreset : s.resetPin = false) (hdue : restartDue s = false)
    (hsynced : (s.ports.get p).state = .synced) (hgap : (s.rx.get p).delim = .gap) (hsof : x ≠ .symbol .sof)
    (herror : x ≠ .codeError) :
    exec (delivery p x) s = .next (s.setRx p (gapSymbol (s.rx.get p))) := by
  rw [exec_delivery_of_synced hreset hsynced, countCodeError_of_ne herror, delimit_of_gap hgap hsof]
  simp only [errorCount, if_neg herror, bucketAdd_zero]
  exact congrArg _ (settleRestart_of_not_due hdue)

end

/-- Settles O12, by the equations of GAP. -/
theorem gapTakesSofAndCountsRest : Obligations.GapTakesSofAndCountsRest := by
  intro p s hreset hdue hsynced hgap
  refine ⟨?_, fun c hc => ?_⟩
  · refine (exec_delivery_of_synced (x := .symbol .sof) hreset hsynced).trans (congrArg _ ?_)
    rw [countCodeError_of_ne (by decide), delimit_of_gap_sof hgap]
    exact settleRestart_of_not_due hdue
  · have counts (x : LineEvent) := exec_delivery_of_gap (x := x) hreset hdue hsynced hgap
    obtain rfl | rfl | rfl | ⟨b, rfl⟩ := hc
    · exact counts (.symbol .idle) nofun nofun
    · exact counts (.symbol .eof) nofun nofun
    · exact counts (.symbol .abort) nofun nofun
    · exact counts (.symbol (.data b)) nofun nofun

/-! ## What a frame's end does in its path (R43 to R45) -/

section
variable {p : Port} {x : LineEvent} {cls : EndClass} {s : State}

theorem endCommit_frame (f : InFlight) (s : State) :
    endCommit p cls f s = { s with
      slots := (endCommit p cls f s).slots, notice := (endCommit p cls f s).notice
      queues := (endCommit p cls f s).queues, proxyStats := (endCommit p cls f s).proxyStats } := by
  unfold endCommit
  split
  · split
    · rfl
    · split
      · rw [captureCommit_frame]
      · rfl
    · rfl
    · split
      · rw [learnCommit_frame]
      · rfl
  · rfl

theorem endCommit_paths (f : InFlight) (s : State) : (endCommit p cls f s).paths = s.paths := by rw [endCommit_frame]

theorem endCommit_of_not_good (h : cls ≠ .good) (f : InFlight) : endCommit p cls f s = s := by simp [endCommit, h]

theorem endCommit_of_no_commit {f : InFlight} (h : f.decision.commit = .none) : endCommit p cls f s = s := by
  simp [endCommit, h]

theorem restartDue_endCommit (f : InFlight) (s : State) : restartDue (endCommit p cls f s) = restartDue s := by
  unfold endCommit
  split
  · split
    · rfl
    · split
      · exact restartDue_captureCommit ..
      · rfl
    · rfl
    · split
      · exact restartDue_learnCommit ..
      · rfl
  · rfl

theorem pollEnd_frame (p : Port) (cls : EndClass) (n : Fin 32) (g : Byte) (s : State) :
    pollEnd p cls n g s = { s with
      queues := (pollEnd p cls n g s).queues, dirStats := (pollEnd p cls n g s).dirStats
      proxyStats := (pollEnd p cls n g s).proxyStats } := by
  unfold pollEnd
  split
  · split <;> rfl
  · rfl

/-- R53: a lost reservation is counted withdrawn, not poisoned. -/
theorem pollEnd_poisoned (p : Port) (cls : EndClass) (n : Fin 32) (g : Byte) (s : State) (d : Dir) :
    ((pollEnd p cls n g s).dirStats.get d).poisoned = (s.dirStats.get d).poisoned := by
  unfold pollEnd
  split
  · split
    · rfl
    · refine PerDir.map_get_set (fun c : DirCounters => c.poisoned) s.dirStats ?_ d
      rfl
  · rfl

theorem endVerdict_frame (f : InFlight) (s : State) :
    endVerdict p cls f s = { s with
      paths := (endVerdict p cls f s).paths, slots := (endVerdict p cls f s).slots
      notice := (endVerdict p cls f s).notice, queues := (endVerdict p cls f s).queues
      dirStats := (endVerdict p cls f s).dirStats, proxyStats := (endVerdict p cls f s).proxyStats } := by
  unfold endVerdict
  split
  · rw [endCommit_frame]; rfl
  · rw [endCommit_frame]
  · split
    · rw [pollEnd_frame]
    · rfl
  all_goals rfl

/-- R44: an end other than GOOD makes no commit, so no slot and no event changes. -/
theorem endVerdict_of_not_good (h : cls ≠ .good) (f : InFlight) (s : State) :
    (endVerdict p cls f s).slots = s.slots ∧ (endVerdict p cls f s).notice = s.notice := by
  unfold endVerdict
  split
  · rw [endCommit_of_not_good h]; exact ⟨rfl, rfl⟩
  · rw [endCommit_of_not_good h]; exact ⟨rfl, rfl⟩
  · split
    · rw [pollEnd_frame]; exact ⟨rfl, rfl⟩
    · exact ⟨rfl, rfl⟩
  all_goals exact ⟨rfl, rfl⟩

/-- R45: the ends that have no effect on the path. -/
theorem endVerdict_of_no_effect {f : InFlight} (h : f.decision.verdict = .drop ∨ f.decision.verdict = .answered false
    ∨ cls ≠ .good ∧ (f.decision.verdict = .take ∨ f.decision.verdict = .consumeAgent ∨ f.decision.verdict = .consumeAssign)) :
    endVerdict p cls f s = s := by
  obtain h | h | ⟨hcls, h | h | h⟩ := h
  case inr.inr.inl => simp [endVerdict, h, endCommit_of_not_good hcls]
  all_goals simp [endVerdict, h]

/-- R53: no frame's end adds or takes a frame of a detour store, or counts one poisoned. -/
theorem endVerdict_stores (f : InFlight) (s : State) (d : Dir) :
    ((endVerdict p cls f s).paths.get d).store.length = (s.paths.get d).store.length
    ∧ ((endVerdict p cls f s).dirStats.get d).poisoned = (s.dirStats.get d).poisoned := by
  unfold endVerdict
  split
  · rw [endCommit_frame]
    exact ⟨PerDir.map_get_set (fun y : RelayPath => y.store.length) s.paths (pushMark_length _ _) d, rfl⟩
  · rw [endCommit_frame]; exact ⟨rfl, rfl⟩
  · split
    · exact ⟨by rw [pollEnd_frame], pollEnd_poisoned ..⟩
    · exact ⟨rfl, rfl⟩
  all_goals exact ⟨rfl, rfl⟩

theorem closeFlight_of_none (h : (s.paths.get (dirIn p)).flight = none) : closeFlight p cls s = s := by
  simp [closeFlight, h]

theorem closeFlight_of_some {f : InFlight} (h : (s.paths.get (dirIn p)).flight = some f) :
    closeFlight p cls s = (endVerdict p cls f s).setPath (dirIn p)
      { (endVerdict p cls f s).paths.get (dirIn p) with flight := none } := by
  simp [closeFlight, h]

theorem closeFlight_frame (p : Port) (cls : EndClass) (s : State) :
    closeFlight p cls s = { s with
      paths := (closeFlight p cls s).paths, slots := (closeFlight p cls s).slots
      notice := (closeFlight p cls s).notice, queues := (closeFlight p cls s).queues
      dirStats := (closeFlight p cls s).dirStats, proxyStats := (closeFlight p cls s).proxyStats } := by
  unfold closeFlight
  split
  · rfl
  · dsimp only
    rw [endVerdict_frame]
    rfl

theorem closeFlight_flight (p : Port) (cls : EndClass) (s : State) :
    ((closeFlight p cls s).paths.get (dirIn p)).flight = none := by
  unfold closeFlight
  split
  · assumption
  · simp

theorem closeFlight_of_not_good (h : cls ≠ .good) (p : Port) (s : State) :
    (closeFlight p cls s).slots = s.slots ∧ (closeFlight p cls s).notice = s.notice := by
  unfold closeFlight
  split
  · exact ⟨rfl, rfl⟩
  · exact endVerdict_of_not_good h _ _

theorem closeFlight_stores (p : Port) (cls : EndClass) (s : State) (d : Dir) :
    ((closeFlight p cls s).paths.get d).store.length = (s.paths.get d).store.length
    ∧ ((closeFlight p cls s).dirStats.get d).poisoned = (s.dirStats.get d).poisoned := by
  unfold closeFlight
  split
  · exact ⟨rfl, rfl⟩
  · obtain ⟨hlength, hpoisoned⟩ := endVerdict_stores (p := p) (cls := cls) _ s d
    refine ⟨(PerDir.map_get_set (fun y : RelayPath => y.store.length) _ ?_ d).trans hlength, hpoisoned⟩
    rfl

/-- R43: a relay path whose newest frame has got its end mark and whose hold and record are cleared. -/
def markedPath (cls : EndClass) (fs : List StoredFrame) (y : StoredFrame) (w : RelayPath) : RelayPath :=
  { w with
    flight := none
    store := fs ++ [{ y with mark := some (if cls = .good then .eof else .abort) }]
    highWater := max w.highWater (min (occupancy w.store + 1) 96) }

section
variable {f : InFlight} {fs : List StoredFrame} {y : StoredFrame} (hflight : (s.paths.get (dirIn p)).flight = some f)
  (hforward : f.decision.verdict = .forward) (hstore : (s.paths.get (dirIn p)).store = fs ++ [{ y with mark := none }])
include hflight hforward hstore

/-- R43, R44: the mark joins the store, then the commit is made or abandoned, then the hold is cleared. -/
theorem closeFlight_of_forward :
    closeFlight p cls s = { endCommit p cls f (s.setPath (dirIn p)
        { markedPath cls fs y (s.paths.get (dirIn p)) with flight := some f }) with
      paths := s.paths.set (dirIn p) (markedPath cls fs y (s.paths.get (dirIn p))) } := by
  have verdict : endVerdict p cls f s = endCommit p cls f (s.setPath (dirIn p)
      { markedPath cls fs y (s.paths.get (dirIn p)) with flight := some f }) := by
    simp only [endVerdict, hforward, State.setStore_pushMark hstore, ← hflight, markedPath]
  rw [closeFlight_of_some hflight, verdict, endCommit_frame]
  simp [State.setPath]
  rfl

theorem closeFlight_of_no_commit (hcommit : f.decision.commit = .none) :
    closeFlight p cls s = s.setPath (dirIn p) (markedPath cls fs y (s.paths.get (dirIn p))) := by
  rw [closeFlight_of_forward hflight hforward hstore, endCommit_of_no_commit hcommit]
  rfl

theorem closeFlight_of_forward_frame :
    (closeFlight p cls s).paths = s.paths.set (dirIn p) (markedPath cls fs y (s.paths.get (dirIn p)))
    ∧ (closeFlight p cls s).dirStats = s.dirStats ∧ restartDue (closeFlight p cls s) = restartDue s := by
  rw [closeFlight_of_forward hflight hforward hstore]
  refine ⟨rfl, by rw [endCommit_frame]; rfl, ?_⟩
  have tx (w : RelayPath) (hw : w.tx = (s.paths.get (dirIn p)).tx) (d : Dir) :
      ((s.paths.set (dirIn p) w).get d).tx.isNamed = (s.paths.get d).tx.isNamed :=
    PerDir.map_get_set (fun z => z.tx.isNamed) s.paths (congrArg Tx.isNamed hw) d
  rw [restartDue_setPaths, restartDue_endCommit]
  · refine restartDue_setPaths (tx _ ?_)
    rfl
  · intro d
    rw [endCommit_paths]
    refine (tx _ ?_ d).trans (tx _ ?_ d).symm
    · rfl
    · rfl

end

/-! ## A frame's end below the bucket's limit (R13, R26) -/

theorem countEnd_eq (p : Port) (cls : EndClass) (s : State) : countEnd p cls s = s.bumpPort p (countedEnd cls) := by
  cases cls <;> rfl

/-- R46: an end other than GOOD, or of a frame the agent does not receive, leaves the agent without it and executes nothing. -/
theorem agentEnd_discards (h : cls = .good → s.inbox.get p = none) : agentEnd p cls s = s.setInbox p none := by
  unfold agentEnd
  split
  · rename_i hnone
    rw [State.setInbox, ← hnone, PerPort.set_get_self]
  · rename_i y hsome
    have : cls ≠ .good := fun he => by rw [h he] at hsome; cases hsome
    simp [this]

/-- R20: what a frame's end adds to the bucket: 1 where it is not GOOD, and 1 more for a code error. -/
def additions (cls : EndClass) (x : LineEvent) : Nat := (if cls = .good then 0 else 1) + errorCount x

theorem additions_of_not_good (h : cls ≠ .good) : additions cls x = 1 + errorCount x := by simp [additions, h]

/-- A frame has ended, the bucket's additions still to come: the receiver has moved on, the end is counted, the path has taken it, and
the agent holds nothing more. -/
def endedFrame (p : Port) (cls : EndClass) (x : LineEvent) (s : State) : State :=
  (closeFlight p cls ((s.setRx p (rxAfterEnd s.timestamp x (s.rx.get p))).bumpPort p (countedEnd cls))).setInbox p none

theorem frameEnd_eq (h : cls = .good → s.inbox.get p = none) :
    frameEnd p cls x s = joinCheck (bucketAdd p (additions cls x) (endedFrame p cls x s)) := by
  unfold frameEnd endedFrame
  rw [countEnd_eq, agentEnd_discards]
  · rfl
  · rw [closeFlight_frame]; exact h

theorem endedFrame_frame (p : Port) (cls : EndClass) (x : LineEvent) (s : State) :
    endedFrame p cls x s = { s with
      rx := s.rx.set p (rxAfterEnd s.timestamp x (s.rx.get p))
      portStats := s.portStats.set p (countedEnd cls (s.portStats.get p))
      inbox := s.inbox.set p none
      paths := (endedFrame p cls x s).paths, slots := (endedFrame p cls x s).slots
      notice := (endedFrame p cls x s).notice, queues := (endedFrame p cls x s).queues
      dirStats := (endedFrame p cls x s).dirStats, proxyStats := (endedFrame p cls x s).proxyStats } := by
  unfold endedFrame
  rw [closeFlight_frame]
  rfl

theorem endedFrame_relay (p : Port) (cls : EndClass) (x : LineEvent) (s : State) : (endedFrame p cls x s).relay = s.relay := by
  rw [endedFrame_frame]

/-- A frame without a decision ends with nothing in its path. -/
theorem endedFrame_of_no_flight (h : (s.paths.get (dirIn p)).flight = none) :
    endedFrame p cls x s = { s with
      rx := s.rx.set p (rxAfterEnd s.timestamp x (s.rx.get p))
      portStats := s.portStats.set p (countedEnd cls (s.portStats.get p))
      inbox := s.inbox.set p none } := by
  unfold endedFrame
  rw [closeFlight_of_none (by exact h)]
  rfl

theorem endedFrame_of_not_good (h : cls ≠ .good) :
    (endedFrame p cls x s).slots = s.slots ∧ (endedFrame p cls x s).notice = s.notice :=
  closeFlight_of_not_good h ..

theorem endedFrame_stores (p : Port) (cls : EndClass) (x : LineEvent) (s : State) (d : Dir) :
    ((endedFrame p cls x s).paths.get d).store.length = (s.paths.get d).store.length
    ∧ ((endedFrame p cls x s).dirStats.get d).poisoned = (s.dirStats.get d).poisoned :=
  closeFlight_stores p cls ((s.setRx p _).bumpPort p _) d

theorem endedFrame_of_forward {f : InFlight} {fs : List StoredFrame} {y : StoredFrame}
    (hflight : (s.paths.get (dirIn p)).flight = some f) (hforward : f.decision.verdict = .forward)
    (hstore : (s.paths.get (dirIn p)).store = fs ++ [{ y with mark := none }]) :
    (endedFrame p cls x s).paths = s.paths.set (dirIn p) (markedPath cls fs y (s.paths.get (dirIn p)))
    ∧ (endedFrame p cls x s).dirStats = s.dirStats ∧ restartDue (endedFrame p cls x s) = restartDue s :=
  closeFlight_of_forward_frame (s := (s.setRx p _).bumpPort p _) hflight hforward hstore

theorem rxAfterEnd_sof (now : Wide) (r : Receiver) : rxAfterEnd now (.symbol .sof) r = nextFrame now := rfl

theorem rxAfterEnd_of_ne (now : Wide) (r : Receiver) (h : x ≠ .symbol .sof) : rxAfterEnd now x r = afterEnd r := by
  simp [rxAfterEnd, h, endedRx, afterEnd]

theorem rxAfterEnd_eq (now : Wide) (x : LineEvent) (r : Receiver) :
    rxAfterEnd now x r = if x = .symbol .sof then nextFrame now else afterEnd r := rfl

/-- R26: the condition of joining, seen from one port. -/
theorem joinReady_eq (p : Port) (s : State) :
    joinReady s = decide (s.relay = .bypass ∧ (s.ports.get p).state = .synced ∧ (s.ports.get (otherPort p)).state = .synced
      ∧ (s.rx.get p).delim = .gap ∧ (s.rx.get (otherPort p)).delim = .gap) := by
  cases p <;> simp [joinReady, otherPort, PerPort.get] <;> grind

theorem joinCheck_of_not_synced (h : (s.ports.get p).state ≠ .synced) : joinCheck s = s := by
  simp [joinCheck, joinReady_eq p, h]

theorem joinCheck_of_in_frame (h : (s.rx.get p).delim ≠ .gap) : joinCheck s = s := by
  simp [joinCheck, joinReady_eq p, h]

/-- R26: at a frame's end the port itself is SYNCED and in GAP, so that joining rests on the other one. -/
theorem joinCheck_of_gap {u : State} (hsynced : (u.ports.get p).state = .synced) (hgap : (u.rx.get p).delim = .gap)
    (hrelay : u.relay = s.relay) (hports : u.ports.get (otherPort p) = s.ports.get (otherPort p))
    (hrx : u.rx.get (otherPort p) = s.rx.get (otherPort p)) : joinCheck u = joinedAfterEnd p s u := by
  simp [joinCheck, joinReady_eq p, joinedAfterEnd, hsynced, hgap, hrelay, hports, hrx]

theorem joinedAfterEnd_of_ne_bypass {u : State} (h : s.relay ≠ .bypass) : joinedAfterEnd p s u = u := by
  simp [joinedAfterEnd, h]

theorem joinedAfterEnd_congr {v u : State} (hrelay : v.relay = s.relay) (hports : v.ports = s.ports)
    (hrx : v.rx.get (otherPort p) = s.rx.get (otherPort p)) : joinedAfterEnd p v u = joinedAfterEnd p s u := by
  simp only [joinedAfterEnd, hrelay, hports, hrx]

/-- A frame has ended and its additions, which stay below the limit, are in the bucket. -/
def endedBelow (p : Port) (cls : EndClass) (x : LineEvent) (s : State) : State :=
  (endedFrame p cls x s).setPort p { s.ports.get p with bucket := (s.ports.get p).bucket + additions cls x }

theorem frameEnd_of_lt (hinbox : cls = .good → s.inbox.get p = none) (hsynced : (s.ports.get p).state = .synced)
    (h : (s.ports.get p).bucket + additions cls x < (s.settings.bucketLimit.get p).toNat) :
    frameEnd p cls x s
      = if x = .symbol .sof then endedBelow p cls x s else joinedAfterEnd p s (endedBelow p cls x s) := by
  have ended : bucketAdd p (additions cls x) (endedFrame p cls x s) = endedBelow p cls x s := by
    unfold endedBelow
    rw [endedFrame_frame]
    exact bucketAdd_of_lt hsynced h
  rw [frameEnd_eq hinbox, ended, endedBelow, endedFrame_frame]
  split
  · subst x
    exact joinCheck_of_in_frame (p := p) (by simp [rxAfterEnd_sof, nextFrame])
  · rename_i hx
    exact joinCheck_of_gap (by simpa using hsynced) (by simp [rxAfterEnd_of_ne _ _ hx, afterEnd]) rfl
      (PerPort.get_set_otherPort ..) (PerPort.get_set_otherPort ..)

theorem settleRestart_frameEnd_of_lt (hinbox : cls = .good → s.inbox.get p = none)
    (hsynced : (s.ports.get p).state = .synced)
    (h : (s.ports.get p).bucket + additions cls x < (s.settings.bucketLimit.get p).toNat)
    (hdue : restartDue (endedFrame p cls x s) = false) :
    settleRestart (frameEnd p cls x s)
      = if x = .symbol .sof then endedBelow p cls x s else joinedAfterEnd p s (endedBelow p cls x s) := by
  have due : restartDue (endedBelow p cls x s) = false := hdue
  rw [frameEnd_of_lt hinbox hsynced h]
  split
  · exact settleRestart_of_not_due due
  · exact settleRestart_of_not_due ((restartDue_joinedAfterEnd ..).trans due)

/-- R13: a frame with nothing in its path has ended, its additions below the bucket's limit. -/
def endedIdle (p : Port) (cls : EndClass) (x : LineEvent) (s : State) : State :=
  { s with
    rx := s.rx.set p (rxAfterEnd s.timestamp x (s.rx.get p))
    ports := s.ports.set p { s.ports.get p with bucket := (s.ports.get p).bucket + additions cls x }
    portStats := s.portStats.set p (countedEnd cls (s.portStats.get p))
    inbox := s.inbox.set p none }

theorem endedBelow_of_no_flight (h : (s.paths.get (dirIn p)).flight = none) :
    endedBelow p cls x s = endedIdle p cls x s := by
  unfold endedBelow
  rw [endedFrame_of_no_flight h]
  rfl

theorem exec_delivery_of_frameEnd_lt (hreset : s.resetPin = false) (hsynced : (s.ports.get p).state = .synced)
    {v : State} (hend : delimit p x (countCodeError p x s) = frameEnd p cls x v)
    (hinbox : cls = .good → v.inbox.get p = none) (hflight : (v.paths.get (dirIn p)).flight = none)
    (hports : v.ports = s.ports) (hsettings : v.settings = s.settings) (hv : restartDue v = false)
    (h : (s.ports.get p).bucket + additions cls x < (s.settings.bucketLimit.get p).toNat) :
    exec (delivery p x) s = .next
      (if x = .symbol .sof then endedIdle p cls x v else joinedAfterEnd p v (endedIdle p cls x v)) := by
  rw [exec_delivery_of_synced hreset hsynced, hend, settleRestart_frameEnd_of_lt hinbox (hports ▸ hsynced)
    (hports ▸ hsettings ▸ h), endedBelow_of_no_flight hflight]
  rw [endedFrame_of_no_flight hflight]
  exact hv

/-- R13, R26: the end, below the limit, of a frame with nothing in its path; out of an SOF it may bring JOINING about. -/
theorem exec_delivery_ends_idle (hreset : s.resetPin = false) (hdue : restartDue s = false)
    (hsynced : (s.ports.get p).state = .synced)
    (hend : delimit p x (countCodeError p x s) = frameEnd p cls x (countCodeError p x s))
    (hinbox : cls = .good → s.inbox.get p = none) (hflight : (s.paths.get (dirIn p)).flight = none)
    (h : (s.ports.get p).bucket + additions cls x < (s.settings.bucketLimit.get p).toNat) {u : State}
    (hu : u = { s with
      rx := s.rx.set p (rxAfterEnd s.timestamp x (s.rx.get p))
      ports := s.ports.set p { s.ports.get p with bucket := (s.ports.get p).bucket + additions cls x }
      portStats := s.portStats.set p (countedEnd cls (withError x (s.portStats.get p)))
      inbox := s.inbox.set p none }) :
    exec (delivery p x) s = .next (if x = .symbol .sof then u else joinedAfterEnd p s u) := by
  rw [countCodeError_eq] at hend
  rw [exec_delivery_of_frameEnd_lt hreset hsynced ((congrArg _ (countCodeError_eq p x s)).trans hend) hinbox hflight rfl rfl
    hdue h]
  simp only [endedIdle, PerPort.get_set_self, PerPort.set_set, hu]
  rfl

/-- R13: out of BYPASS a frame's end below the limit makes no join. -/
theorem exec_delivery_ends_in_line (hreset : s.resetPin = false) (hsynced : (s.ports.get p).state = .synced)
    (hend : delimit p x (countCodeError p x s) = frameEnd p cls x (countCodeError p x s))
    (hinbox : cls = .good → s.inbox.get p = none) (hrelay : s.relay ≠ .bypass)
    (h : (s.ports.get p).bucket + additions cls x < (s.settings.bucketLimit.get p).toNat)
    (hdue : restartDue (endedFrame p cls x (countCodeError p x s)) = false) :
    exec (delivery p x) s = .next (endedBelow p cls x (countCodeError p x s)) := by
  have frame := countCodeError_eq p x s
  rw [exec_delivery_of_synced hreset hsynced, hend, settleRestart_frameEnd_of_lt (by rw [frame]; exact hinbox)
    (by rw [frame]; exact hsynced) (by rw [frame]; exact h) hdue, joinedAfterEnd_of_ne_bypass (by rw [frame]; exact hrelay),
    ite_self]

/-- R43, R45: an end in the line that leaves its path at w and touches no slot or queue. -/
theorem exec_delivery_closes (hreset : s.resetPin = false) (hdue : restartDue s = false)
    (hsynced : (s.ports.get p).state = .synced)
    (hend : delimit p x (countCodeError p x s) = frameEnd p cls x (countCodeError p x s))
    (hinbox : cls = .good → s.inbox.get p = none) (hrelay : s.relay ≠ .bypass)
    (h : (s.ports.get p).bucket + additions cls x < (s.settings.bucketLimit.get p).toNat) {w : RelayPath}
    (hclosed : ∀ u : State, u.paths = s.paths → closeFlight p cls u = u.setPath (dirIn p) w)
    (hw : w.tx = (s.paths.get (dirIn p)).tx) :
    exec (delivery p x) s = .next { s with
      rx := s.rx.set p (rxAfterEnd s.timestamp x (s.rx.get p))
      ports := s.ports.set p { s.ports.get p with bucket := (s.ports.get p).bucket + additions cls x }
      portStats := s.portStats.set p (countedEnd cls (withError x (s.portStats.get p)))
      inbox := s.inbox.set p none
      paths := s.paths.set (dirIn p) w } := by
  have tx := PerDir.map_get_set (fun z => z.tx.isNamed) s.paths (congrArg Tx.isNamed hw)
  have closed : endedFrame p cls x (countCodeError p x s) = { s with
      rx := s.rx.set p (rxAfterEnd s.timestamp x (s.rx.get p))
      portStats := s.portStats.set p (countedEnd cls (withError x (s.portStats.get p)))
      inbox := s.inbox.set p none
      paths := s.paths.set (dirIn p) w } := by
    rw [countCodeError_eq, endedFrame, hclosed _ (by rfl)]
    simp [State.setPath, State.bumpPort, State.setRx, State.setInbox]
  rw [exec_delivery_ends_in_line hreset hsynced hend hinbox hrelay h, endedBelow, closed, countCodeError_eq]
  · rfl
  · rw [closed]
    exact (restartDue_setPaths tx).trans hdue

/-! ## A frame's end that fills the bucket (R17, R28) -/

/-- R12: the receiver of a port that has left SYNCED: a frame in progress is cut off. -/
def cutRx (r : Receiver) : Receiver := if r.delim = .gap then r else endedRx r

theorem cutRx_gap (r : Receiver) : (cutRx r).delim = .gap := by
  unfold cutRx
  split
  · assumption
  · rfl

/-- R12, R17: a port has entered FAULT, and the frame in progress on it is cut off. -/
def withFault (p : Port) (s : State) : State :=
  { s with
    ports := s.ports.set p faultedPort
    portStats := s.portStats.set p (countedFault (s.portStats.get p))
    rx := s.rx.set p (cutRx (s.rx.get p)) }

theorem cutOutput_frame (p : Port) (s : State) :
    cutOutput p s = { s with paths := (cutOutput p s).paths, dirStats := (cutOutput p s).dirStats } := rfl

theorem flushQueue_frame (p : Port) (s : State) :
    flushQueue p s = { s with queues := (flushQueue p s).queues, dirStats := (flushQueue p s).dirStats } := rfl

theorem enterBypass_frame (s : State) :
    enterBypass s = { s with
      relay := .bypass, settle := none, bypassPin := (enterBypass s).bypassPin
      paths := (enterBypass s).paths, queues := (enterBypass s).queues, dirStats := (enterBypass s).dirStats } := by
  unfold enterBypass
  rw [flushQueue_frame, flushQueue_frame, cutOutput_frame, cutOutput_frame]

theorem enterBypass_poisoned (s : State) (d : Dir) :
    ((enterBypass s).dirStats.get d).poisoned = satAdd (s.dirStats.get d).poisoned (s.paths.get d).store.length := by
  cases d <;> rfl

theorem cutOutput_droppedLength (p : Port) (s : State) (d : Dir) :
    ((cutOutput p s).dirStats.get d).droppedLength = (s.dirStats.get d).droppedLength := by
  refine PerDir.map_get_set (fun c : DirCounters => c.droppedLength) s.dirStats ?_ d
  rfl

theorem flushQueue_droppedLength (p : Port) (s : State) (d : Dir) :
    ((flushQueue p s).dirStats.get d).droppedLength = (s.dirStats.get d).droppedLength := by
  refine PerDir.map_get_set (fun c : DirCounters => c.droppedLength) s.dirStats ?_ d
  rfl

theorem enterBypass_droppedLength (s : State) (d : Dir) :
    ((enterBypass s).dirStats.get d).droppedLength = (s.dirStats.get d).droppedLength := by
  simp only [enterBypass, flushQueue_droppedLength, cutOutput_droppedLength]

/-- R28: the part is in BYPASS, by entering it where it was in the line. -/
def outOfLine (s : State) : State := if s.relay = .bypass then s else enterBypass s

theorem outOfLine_of_bypass (h : s.relay = .bypass) : outOfLine s = s := if_pos h

theorem outOfLine_of_ne_bypass (h : s.relay ≠ .bypass) : outOfLine s = enterBypass s := if_neg h

theorem outOfLine_frame (s : State) :
    outOfLine s = { s with
      relay := .bypass, settle := (outOfLine s).settle, bypassPin := (outOfLine s).bypassPin
      paths := (outOfLine s).paths, queues := (outOfLine s).queues, dirStats := (outOfLine s).dirStats } := by
  by_cases h : s.relay = .bypass
  · rw [outOfLine_of_bypass h, ← h]
  · rw [outOfLine_of_ne_bypass h, enterBypass_frame]

theorem outOfLine_relay (s : State) : (outOfLine s).relay = .bypass := by rw [outOfLine_frame]

theorem outOfLine_droppedLength (s : State) (d : Dir) :
    ((outOfLine s).dirStats.get d).droppedLength = (s.dirStats.get d).droppedLength := by
  by_cases h : s.relay = .bypass
  · rw [outOfLine_of_bypass h]
  · rw [outOfLine_of_ne_bypass h, enterBypass_droppedLength]

theorem cutFrame_of_idle (hflight : (s.paths.get (dirIn p)).flight = none) (hinbox : s.inbox.get p = none) :
    cutFrame p s = s.setRx p (cutRx (s.rx.get p)) := by
  unfold cutFrame cutRx
  split
  · simp [State.setRx]
  · rw [closeFlight_of_none hflight, State.setInbox, ← hinbox, PerPort.set_get_self]

/-- R173: out of the line no NOTICE is placed: an event is made pending and nothing else changes. -/
theorem addEvent_of_not_relays (bit : BitVec 34) (h : s.relay.relays = false) : addEvent bit s = noted bit s :=
  offerNotice_of_relays h

theorem enterFault_of_idle (hflight : (s.paths.get (dirIn p)).flight = none) (hinbox : s.inbox.get p = none) :
    enterFault [p] s = noted (portBit p) (outOfLine (withFault p s)) := by
  have cut : cutFrame p (setFault p s) = withFault p s := cutFrame_of_idle hflight hinbox
  have left : leaveSynced [p] (setFault p s) = outOfLine (withFault p s) := by rw [← cut]; rfl
  refine Eq.trans ?_ (addEvent_of_not_relays _ (by rw [outOfLine_relay]; rfl))
  rw [← left]
  rfl

/-- R17, R28: a frame has ended and its additions have filled the bucket: the port is in FAULT and the part in BYPASS [log 18], and the
port-change event is added [log 17]. -/
def endedFull (p : Port) (cls : EndClass) (x : LineEvent) (s : State) : State :=
  noted (portBit p) (outOfLine (withFault p (endedFrame p cls x s)))

theorem frameEnd_of_le (hcls : cls ≠ .good) (hsynced : (s.ports.get p).state = .synced)
    (h : (s.settings.bucketLimit.get p).toNat ≤ (s.ports.get p).bucket + additions cls x) :
    frameEnd p cls x s = endedFull p cls x s := by
  have full : bucketAdd p (additions cls x) (endedFrame p cls x s) = enterFault [p] (endedFrame p cls x s) := by
    rw [endedFrame_frame]
    exact bucketAdd_of_le (by simp [additions, hcls]) hsynced h
  rw [frameEnd_eq (fun he => absurd he hcls), full,
    enterFault_of_idle (by exact closeFlight_flight ..) (by simp [endedFrame])]
  refine joinCheck_of_not_synced (p := p) ?_
  simp only [noted]
  rw [outOfLine_frame]
  simp [withFault, faultedPort]

theorem endedFull_frame (p : Port) (cls : EndClass) (x : LineEvent) (s : State) :
    endedFull p cls x s = { s with
      ports := s.ports.set p faultedPort
      rx := s.rx.set p (cutRx (rxAfterEnd s.timestamp x (s.rx.get p)))
      relay := .bypass
      portStats := s.portStats.set p (countedFault (countedEnd cls (s.portStats.get p)))
      inbox := s.inbox.set p none
      slots := (endedFrame p cls x s).slots
      notice := (noted (portBit p) (endedFrame p cls x s)).notice
      settle := (endedFull p cls x s).settle, bypassPin := (endedFull p cls x s).bypassPin
      paths := (endedFull p cls x s).paths, queues := (endedFull p cls x s).queues
      dirStats := (endedFull p cls x s).dirStats, proxyStats := (endedFull p cls x s).proxyStats } := by
  unfold endedFull
  rw [outOfLine_frame]
  simp only [withFault, noted]
  rw [endedFrame_frame]
  simp

/-- R13, R17, R22: what an end other than GOOD that fills the bucket leaves, a code error counted. -/
theorem endedFull_countCodeError (hcls : cls ≠ .good) :
    let t := endedFull p cls x (countCodeError p x s)
    t.ports = s.ports.set p faultedPort ∧ t.relay = .bypass ∧ (t.rx.get p).delim = .gap
    ∧ t.portStats = s.portStats.set p (countedFault (countedEnd cls (withError x (s.portStats.get p))))
    ∧ t.inbox = s.inbox.set p none ∧ t.slots = s.slots ∧ t.notice = (noted (portBit p) s).notice := by
  intro t
  have frame := endedFull_frame p cls x (countCodeError p x s)
  obtain ⟨hslots, hnotice⟩ := endedFrame_of_not_good (p := p) (x := x) (s := countCodeError p x s) hcls
  simp only [noted, hslots, hnotice] at frame
  rw [countCodeError_eq] at frame
  simp only [t, countCodeError_eq]
  rw [frame]
  simp [cutRx_gap, noted]

theorem endedFull_of_ne_bypass (h : s.relay ≠ .bypass) :
    endedFull p cls x s = noted (portBit p) (enterBypass (withFault p (endedFrame p cls x s))) := by
  rw [endedFull, outOfLine_of_ne_bypass]
  exact (endedFrame_relay ..).symm ▸ h

/-- R28, R53: at the entry to BYPASS both stores are empty and each through-frame of them is counted poisoned. -/
theorem endedFull_stores (h : s.relay ≠ .bypass) (d : Dir) :
    (((endedFull p cls x s).paths.get d).store = [] ∧ ((endedFull p cls x s).paths.get d).flight = none)
    ∧ ((endedFull p cls x s).dirStats.get d).poisoned = satAdd (s.dirStats.get d).poisoned (s.paths.get d).store.length := by
  obtain ⟨hlength, hpoisoned⟩ := endedFrame_stores p cls x s d
  rw [endedFull_of_ne_bypass h, ← hlength, ← hpoisoned]
  exact ⟨enterBypass_paths (withFault p _) d, enterBypass_poisoned (withFault p _) d⟩

theorem endedFull_queues (h : s.relay ≠ .bypass) (q : Port) :
    (endedFull p cls x s).queues.get q = { entries := [], held := false } := by
  rw [endedFull_of_ne_bypass h]
  exact enterBypass_queues (withFault p _) q

/-- A part already in BYPASS has nothing in the line to give up. -/
theorem endedFull_of_bypass (h : s.relay = .bypass) (hflight : (s.paths.get (dirIn p)).flight = none) :
    (endedFull p cls x s).paths = s.paths ∧ (endedFull p cls x s).queues = s.queues
    ∧ (endedFull p cls x s).dirStats = s.dirStats := by
  rw [endedFull, outOfLine_of_bypass (by exact (endedFrame_relay ..).trans h), endedFrame_of_no_flight hflight]
  exact ⟨rfl, rfl, rfl⟩

theorem endedFull_droppedLength (h : (s.paths.get (dirIn p)).flight = none) (d : Dir) :
    ((endedFull p cls x s).dirStats.get d).droppedLength = (s.dirStats.get d).droppedLength := by
  simp only [endedFull, noted, outOfLine_droppedLength, withFault]
  rw [endedFrame_of_no_flight h]

theorem exec_delivery_of_frameEnd_le (hreset : s.resetPin = false) (hsynced : (s.ports.get p).state = .synced)
    {v : State} (hend : delimit p x (countCodeError p x s) = frameEnd p cls x v) (hcls : cls ≠ .good)
    (hports : v.ports = s.ports) (hsettings : v.settings = s.settings) (hpending : v.restartPending = false)
    (h : (s.settings.bucketLimit.get p).toNat ≤ (s.ports.get p).bucket + additions cls x) :
    exec (delivery p x) s = .next (endedFull p cls x v) := by
  rw [exec_delivery_of_synced hreset hsynced, hend, frameEnd_of_le hcls (hports ▸ hsynced) (hports ▸ hsettings ▸ h),
    settleRestart_of_not_pending]
  rw [endedFull_frame]
  exact hpending

theorem exec_delivery_ends_full (hreset : s.resetPin = false) (hpending : s.restartPending = false)
    (hsynced : (s.ports.get p).state = .synced)
    (hend : delimit p x (countCodeError p x s) = frameEnd p cls x (countCodeError p x s)) (hcls : cls ≠ .good)
    (h : (s.settings.bucketLimit.get p).toNat ≤ (s.ports.get p).bucket + additions cls x) :
    exec (delivery p x) s = .next (endedFull p cls x (countCodeError p x s)) := by
  have frame := countCodeError_eq p x s
  exact exec_delivery_of_frameEnd_le hreset hsynced hend hcls (by rw [frame]) (by rw [frame]) (by rw [frame]; exact hpending) h

/-! ## HEADER (R9, R11) -/

theorem delimit_of_header_data (h : (s.rx.get p).delim = .header) (b : Byte) :
    delimit p (.symbol (.data b)) s = headerByte p b s := by simp [delimit, h]

theorem delimit_of_header (h : (s.rx.get p).delim = .header) (hx : ∀ b, x ≠ .symbol (.data b)) :
    delimit p x s = frameEnd p (endClass (s.rx.get p) .runt) x s := by
  rcases x with (_ | _ | _ | _ | _) | _ <;> simp [delimit, h] at hx ⊢

theorem headerByte_of_lt {b : Byte} (h : (s.rx.get p).byteCount < 7) :
    headerByte p b s = s.setRx p (headerRx b (s.rx.get p)) :=
  if_pos (show (s.rx.get p).byteCount + 1 < 8 by omega)

theorem headerByte_of_short_gap {b : Byte} (hcount : (s.rx.get p).byteCount = 7)
    (hlen : lenAccepted (headerOf ((s.rx.get p).header ++ [b])) = true) (hgap : (s.rx.get p).shortGap = true) :
    headerByte p b s = s.setRx p (afterHeader b (s.rx.get p)) := by
  simp [headerByte, headerRx, hcount, hlen, hgap, afterHeader]

/-- R9, R40: the eighth header byte is taken and the header's bad len counted where the frame is no short-gap frame. -/
def badLength (p : Port) (b : Byte) (s : State) : State :=
  if (s.rx.get p).shortGap then s.setRx p (headerRx b (s.rx.get p))
  else lengthAtHeader p (s.setRx p (headerRx b (s.rx.get p)))

theorem badLength_eq (p : Port) (b : Byte) (s : State) :
    badLength p b s = { s with
      rx := s.rx.set p (headerRx b (s.rx.get p))
      dirStats := if (s.rx.get p).shortGap = false ∧ (s.relay = .relay ∨ s.relay = .fallback) then
          s.dirStats.set (dirIn p)
            { s.dirStats.get (dirIn p) with droppedLength := satInc (s.dirStats.get (dirIn p)).droppedLength }
        else s.dirStats } := by
  simp only [← relays_iff]
  cases hgap : (s.rx.get p).shortGap <;> cases hrelay : s.relay.relays <;>
    simp [badLength, lengthAtHeader, hgap, hrelay] <;> rfl

theorem headerByte_of_bad_length {b : Byte} (hcount : (s.rx.get p).byteCount = 7)
    (hlen : lenAccepted (headerOf ((s.rx.get p).header ++ [b])) = false) :
    headerByte p b s = frameEnd p (endClass (s.rx.get p) .length) (.symbol (.data b)) (badLength p b s) := by
  cases hgap : (s.rx.get p).shortGap <;> simp [headerByte, headerRx, hcount, hlen, endClass, badLength, hgap]

theorem endedIdle_badLength {b : Byte} (hcls : cls ≠ .good) (hinbox : s.inbox.get p = none) :
    endedIdle p cls (.symbol (.data b)) (badLength p b s) = { s with
      rx := s.rx.set p (afterEnd { s.rx.get p with check := checkByte (s.rx.get p).check b })
      ports := s.ports.set p { s.ports.get p with bucket := (s.ports.get p).bucket + 1 }
      portStats := s.portStats.set p (countedEnd cls (s.portStats.get p))
      dirStats := if (s.rx.get p).shortGap = false ∧ (s.relay = .relay ∨ s.relay = .fallback) then
          s.dirStats.set (dirIn p)
            { s.dirStats.get (dirIn p) with droppedLength := satInc (s.dirStats.get (dirIn p)).droppedLength }
        else s.dirStats } := by
  rw [badLength_eq]
  simp only [endedIdle, additions_of_not_good hcls, PerPort.get_set_self, PerPort.set_set, PerPort.set_of_get_eq hinbox]
  rfl

theorem endClass_runt_ne_good (r : Receiver) : endClass r .runt ≠ .good := by unfold endClass; split <;> decide

theorem endClass_length_ne_good (r : Receiver) : endClass r .length ≠ .good := by unfold endClass; split <;> decide

theorem exists_delivery_not_data {c : Instr} (h : c = .receiveIdle p ∨ c = .receiveEof p ∨ c = .receiveAbort p
    ∨ c = .codeError p) : ∃ x, c = delivery p x ∧ (∀ b, x ≠ .symbol (.data b)) ∧ x ≠ .symbol .sof := by
  obtain rfl | rfl | rfl | rfl := h
  · exact ⟨.symbol .idle, rfl, nofun, nofun⟩
  · exact ⟨.symbol .eof, rfl, nofun, nofun⟩
  · exact ⟨.symbol .abort, rfl, nofun, nofun⟩
  · exact ⟨.codeError, rfl, nofun, nofun⟩

end

/-- Settles O13: a header byte is stored, and every other byte time is a frame's end with nothing in its path, below or at the limit. -/
theorem headerStoresBytesOrEnds : Obligations.HeaderStoresBytesOrEnds := by
  intro p s hreset hsynced hheader r limit filled errors counters
  have atEnd {x : LineEvent} (hx : ∀ b, x ≠ .symbol (.data b)) :
      delimit p x (countCodeError p x s) = frameEnd p (endClass r .runt) x (countCodeError p x s) := by
    rw [countCodeError_eq]
    exact delimit_of_header hheader hx
  have atBadLength {b : Byte} (hcount : r.byteCount = 7) (hlen : lenAccepted (headerOf (r.header ++ [b])) = false) :
      delimit p (.symbol (.data b)) (countCodeError p (.symbol (.data b)) s)
        = frameEnd p (endClass r .length) (.symbol (.data b)) (badLength p b s) := by
    rw [countCodeError_symbol, delimit_of_header_data hheader, headerByte_of_bad_length hcount hlen]
  refine ⟨fun hdue b hb => ?store, fun hflight hinbox => ⟨fun hdue => ⟨fun c hc hlt => ?ends, fun hlt => ?sof,
    fun b hcount hlt hlen => ?badLength⟩, fun hpending c hc hle => ?full, fun hpending b hcount hle hlen => ?badLengthFull⟩⟩
  case store =>
    refine (exec_delivery_of_synced (x := .symbol (.data b)) hreset hsynced).trans (congrArg _ ?_)
    rw [countCodeError_symbol, delimit_of_header_data hheader, headerByte_of_lt hb]
    exact settleRestart_of_not_due hdue
  case ends =>
    obtain ⟨x, rfl, hdata, hsof⟩ := exists_delivery_not_data hc
    have adds := additions_of_not_good (x := x) (endClass_runt_ne_good r)
    simp only [errors, ite_codeError_eq_errorCount] at hlt ⊢
    refine (exec_delivery_ends_idle hreset hdue hsynced (atEnd hdata) (fun _ => hinbox) hflight (by omega) rfl).trans ?_
    simp only [if_neg hsof, rxAfterEnd_of_ne _ _ hsof, PerPort.set_of_get_eq hinbox, adds, counters, ite_codeError_eq_withError]
    rfl
  case sof =>
    have adds := additions_of_not_good (x := .symbol .sof) (endClass_runt_ne_good r)
    refine (exec_delivery_ends_idle (x := .symbol .sof) hreset hdue hsynced (atEnd fun _ => by simp) (fun _ => hinbox) hflight
      (adds ▸ hlt) rfl).trans ?_
    simp only [PerPort.set_of_get_eq hinbox, adds]
    rfl
  case badLength =>
    have adds := additions_of_not_good (x := .symbol (.data b)) (endClass_length_ne_good r)
    have frame := badLength_eq p b s
    refine (exec_delivery_of_frameEnd_lt hreset hsynced (atBadLength hcount hlen) (fun _ => by rw [frame]; exact hinbox)
      (by rw [frame]; exact hflight) (by rw [frame]) (by rw [frame]) (by rw [frame]; exact hdue) (adds ▸ hlt)).trans ?_
    rw [if_neg (by simp), joinedAfterEnd_congr (s := s) (by rw [frame]) (by rw [frame])
      (by rw [frame]; exact PerPort.get_set_otherPort ..)]
    refine congrArg (fun u => Host.Outcome.next (joinedAfterEnd p s u)) ?_
    rw [endedIdle_badLength (endClass_length_ne_good r) hinbox]
    by_cases hgap : r.shortGap = true
    · rw [if_pos hgap, if_neg (fun h => by rw [hgap] at h; cases h.1), endClass, if_pos hgap]
    · rw [if_neg hgap, endClass, if_neg hgap]
      have hgap' : r.shortGap = false := by simpa using hgap
      by_cases hrelay : s.relay = .relay ∨ s.relay = .fallback
      · rw [if_pos hrelay, if_pos ⟨hgap', hrelay⟩]
      · rw [if_neg hrelay, if_neg fun h => hrelay h.2]
  case full =>
    obtain ⟨x, rfl, hdata⟩ : ∃ x, c = delivery p x ∧ ∀ b, x ≠ .symbol (.data b) := by
      by_cases hsof : c = .receiveSof p
      · exact ⟨.symbol .sof, hsof, nofun⟩
      · obtain ⟨x, hx, hdata, -⟩ := exists_delivery_not_data (p := p) (c := c) (by tauto)
        exact ⟨x, hx, hdata⟩
    have adds := additions_of_not_good (x := x) (endClass_runt_ne_good r)
    simp only [errors, counters, ite_codeError_eq_errorCount, ite_codeError_eq_withError] at hle ⊢
    obtain ⟨hports, hbypass, hrx, hstats, -⟩ := endedFull_countCodeError (p := p) (x := x) (s := s) (endClass_runt_ne_good r)
    exact ⟨_, exec_delivery_ends_full hreset hpending hsynced (atEnd hdata) (endClass_runt_ne_good r) (by omega),
      hports, hbypass, hrx, hstats⟩
  case badLengthFull =>
    have adds := additions_of_not_good (x := .symbol (.data b)) (endClass_length_ne_good r)
    have frame := badLength_eq p b s
    refine ⟨_, exec_delivery_of_frameEnd_le hreset hsynced (atBadLength hcount hlen) (endClass_length_ne_good r)
      (by rw [frame]) (by rw [frame]) (by rw [frame]; exact hpending) (adds ▸ hle), ?_⟩
    rw [endedFull_droppedLength (by rw [frame]; exact hflight), endedFull_frame, frame]
    refine ⟨rfl, rfl, by simp [cutRx_gap], rfl, ?_⟩
    by_cases hcounted : r.shortGap = false ∧ (s.relay = .relay ∨ s.relay = .fallback)
    · rw [if_pos hcounted, if_pos hcounted, PerDir.get_set_self]
    · rw [if_neg hcounted, if_neg hcounted]

/-! ## BODY: a byte (R10, R41, R42) -/

section
variable {p : Port} {b : Byte} {s : State}

theorem delimit_of_body_data (h : (s.rx.get p).delim = .body) (b : Byte) :
    delimit p (.symbol (.data b)) s = bodyByte p b s := by simp [delimit, h]

theorem bodyByte_of_lt (h : (s.rx.get p).byteCount < frameTotal (s.rx.get p)) :
    bodyByte p b s = if (s.rx.get p).shortGap then s.setRx p (bodyRx b (s.rx.get p))
      else relayByte p b (decide ((s.rx.get p).byteCount + 2 < frameTotal (s.rx.get p)))
        (s.setRx p (bodyRx b (s.rx.get p))) := by
  simp [bodyByte, h]

theorem bodyRx_of_payload {r : Receiver} (h : r.byteCount + 2 < frameTotal r) :
    bodyRx b r = { r with byteCount := r.byteCount + 1, check := checkByte r.check b } := if_pos h

theorem bodyRx_of_check {r : Receiver} (h : frameTotal r ≤ r.byteCount + 2) :
    bodyRx b r = { r with byteCount := r.byteCount + 1, checkBytes := r.checkBytes ++ [b] } := if_neg (Nat.not_lt.mpr h)

theorem exec_receiveDataByte_of_body (hreset : s.resetPin = false) (hsynced : (s.ports.get p).state = .synced)
    (hbody : (s.rx.get p).delim = .body) (h : (s.rx.get p).byteCount < frameTotal (s.rx.get p)) :
    exec (.receiveDataByte p b) s = .next (settleRestart (if (s.rx.get p).shortGap then s.setRx p (bodyRx b (s.rx.get p))
      else relayByte p b (decide ((s.rx.get p).byteCount + 2 < frameTotal (s.rx.get p)))
        (s.setRx p (bodyRx b (s.rx.get p))))) := by
  refine (exec_delivery_of_synced (x := .symbol (.data b)) hreset hsynced).trans ?_
  rw [countCodeError_symbol, delimit_of_body_data hbody, bodyByte_of_lt h]

theorem bufferByte_payload (f : InFlight) :
    bufferByte b true f = { f with buffer := if f.decision.commit = .none then f.buffer else f.buffer ++ [b] } := by
  by_cases h : f.decision.commit = .none <;> simp [bufferByte, h]

theorem bufferByte_decision (payload : Bool) (f : InFlight) : (bufferByte b payload f).decision = f.decision := by
  unfold bufferByte; split <;> rfl

theorem inboxByte_payload (p : Port) (b : Byte) (s : State) :
    inboxByte p b true s
      = s.setInbox p ((s.inbox.get p).map (fun x => { x with payload := x.payload ++ [b] })) := by
  unfold inboxByte
  split
  · rename_i h
    rw [h, Option.map_none, State.setInbox, PerPort.set_of_get_eq h]
  · rename_i h
    rw [h, if_pos rfl, Option.map_some]

theorem inboxByte_check (p : Port) (b : Byte) (s : State) : inboxByte p b false s = s := by
  unfold inboxByte
  split <;> rfl

/-- R41, R42: a relay path after a body byte of a frame f, whose buffer has taken it; a FORWARD frame's byte is one more place of the
detour store, where fs stands before the newest frame y. -/
def bytePath (b : Byte) (f : InFlight) (fs : List StoredFrame) (y : StoredFrame) (w : RelayPath) : RelayPath :=
  if f.decision.verdict = .forward then
    { w with
      flight := some f
      store := fs ++ [{ y with bytes := y.bytes ++ [b] }]
      highWater := max w.highWater (min (occupancy w.store + 1) 96) }
  else { w with flight := some f }

theorem bytePath_tx (f : InFlight) (fs : List StoredFrame) (y : StoredFrame) (w : RelayPath) :
    (bytePath b f fs y w).tx = w.tx := by
  unfold bytePath; split <;> rfl

theorem pathByte_of_some {f : InFlight} {fs : List StoredFrame} {y : StoredFrame} (payload : Bool)
    (hflight : (s.paths.get (dirIn p)).flight = some f)
    (hstore : f.decision.verdict = .forward → (s.paths.get (dirIn p)).store = fs ++ [y]) :
    pathByte p b payload s = s.setPath (dirIn p) (bytePath b (bufferByte b payload f) fs y (s.paths.get (dirIn p))) := by
  simp only [pathByte, hflight, bytePath, bufferByte_decision]
  split
  · rename_i hforward
    rw [State.setStore_pushByte (by simpa using hstore hforward)]
    simp
  · rfl

theorem pathByte_of_none (payload : Bool) (hflight : (s.paths.get (dirIn p)).flight = none) : pathByte p b payload s = s := by
  simp [pathByte, hflight]

section
variable (hreset : s.resetPin = false) (hdue : restartDue s = false) (hsynced : (s.ports.get p).state = .synced)
  (hbody : (s.rx.get p).delim = .body) (hgap : (s.rx.get p).shortGap = false)
include hreset hdue hsynced hbody hgap

/-- R42: a payload byte leaves the path at w and goes to the agent where it receives the frame. -/
theorem exec_payloadByte (h : (s.rx.get p).byteCount + 2 < frameTotal (s.rx.get p)) {w : RelayPath}
    (hpath : ∀ u : State, u.paths = s.paths → pathByte p b true u = u.setPath (dirIn p) w)
    (hw : w.tx = (s.paths.get (dirIn p)).tx) :
    exec (.receiveDataByte p b) s = .next { s with
      rx := s.rx.set p { s.rx.get p with
        byteCount := (s.rx.get p).byteCount + 1, check := checkByte (s.rx.get p).check b }
      paths := s.paths.set (dirIn p) w
      inbox := s.inbox.set p ((s.inbox.get p).map (fun x => { x with payload := x.payload ++ [b] })) } := by
  have tx := PerDir.map_get_set (fun z => z.tx.isNamed) s.paths (congrArg Tx.isNamed hw)
  rw [exec_receiveDataByte_of_body hreset hsynced hbody (by omega), if_neg (by rw [hgap]; decide), decide_eq_true h, relayByte,
    hpath _ (by rfl), inboxByte_payload, bodyRx_of_payload h]
  exact congrArg _ (settleRestart_of_not_due ((restartDue_setPaths tx).trans hdue))

/-- R42: a check byte leaves the path at w and goes nowhere else. -/
theorem exec_checkByte (hle : frameTotal (s.rx.get p) ≤ (s.rx.get p).byteCount + 2)
    (hlt : (s.rx.get p).byteCount < frameTotal (s.rx.get p)) {w : RelayPath}
    (hpath : ∀ u : State, u.paths = s.paths → pathByte p b false u = u.setPath (dirIn p) w)
    (hw : w.tx = (s.paths.get (dirIn p)).tx) :
    exec (.receiveDataByte p b) s = .next { s with
      rx := s.rx.set p { s.rx.get p with
        byteCount := (s.rx.get p).byteCount + 1, checkBytes := (s.rx.get p).checkBytes ++ [b] }
      paths := s.paths.set (dirIn p) w } := by
  have tx := PerDir.map_get_set (fun z => z.tx.isNamed) s.paths (congrArg Tx.isNamed hw)
  rw [exec_receiveDataByte_of_body hreset hsynced hbody hlt, if_neg (by rw [hgap]; decide),
    decide_eq_false (Nat.not_lt.mpr hle), relayByte, hpath _ (by rfl), inboxByte_check, bodyRx_of_check hle]
  exact congrArg _ (settleRestart_of_not_due ((restartDue_setPaths tx).trans hdue))

end

end

/-- Settles O18: the path takes the byte as the decision says, and the agent a payload byte of what it receives. -/
theorem bodyByteOfForwardedFrame : Obligations.BodyByteOfForwardedFrame := by
  intro p b s hreset hdue hsynced hbody hgap r total path asPayload asCheck
  refine ⟨fun f fs y hflight hstore => ?decided, fun hflight => ?undecided⟩
  case decided =>
    intro next
    have atPath (payload : Bool) (u : State) (hu : u.paths = s.paths) :
        pathByte p b payload u = u.setPath (dirIn p) (bytePath b (bufferByte b payload f) fs y path) := by
      rw [pathByte_of_some payload (by rw [hu]; exact hflight) (by rw [hu]; exact hstore), hu]
    refine ⟨fun hlt => ?_, fun hle hlt => ?_⟩
    · rw [exec_payloadByte hreset hdue hsynced hbody hgap hlt (atPath true) (bytePath_tx ..), bufferByte_payload]
      rfl
    · exact exec_checkByte hreset hdue hsynced hbody hgap hle hlt (atPath false) (bytePath_tx ..)
  case undecided =>
    have atPath (payload : Bool) (u : State) (hu : u.paths = s.paths) :
        pathByte p b payload u = u.setPath (dirIn p) path := by
      have stands : path = u.paths.get (dirIn p) := by rw [hu]
      rw [pathByte_of_none payload (stands ▸ hflight), stands, State.setPath_self]
    refine ⟨fun hlt => ?_, fun hle hlt => ?_⟩
    · rw [exec_payloadByte hreset hdue hsynced hbody hgap hlt (atPath true) rfl, PerDir.set_get_self]
    · rw [exec_checkByte hreset hdue hsynced hbody hgap hle hlt (atPath false) rfl, PerDir.set_get_self]

/-! ## BODY: the end (R10, R11) -/

section
variable {p : Port} {x : LineEvent} {cls : EndClass} {s : State}

theorem endClass_aborted (r : Receiver) : endClass r .aborted = .aborted := by simp [endClass]

theorem receivesOn_of_bodyEnd {c : Instr} {n : Nat} {r : Receiver} (h : bodyEnd p n r c = some cls) :
    receivesOn p c = true := by
  cases c with
  | receiveSof | receiveDataByte | receiveEof | receiveAbort | receiveIdle | codeError => grind [bodyEnd, receivesOn]
  | _ => cases h

/-- R10, R11: what ends a frame in BODY ends it with the class of R10's table, or ABORTED under the short-gap mark. -/
theorem delimit_of_bodyEnd (hbody : (s.rx.get p).delim = .body)
    (h : bodyEnd p (frameTotal (s.rx.get p)) (s.rx.get p) (delivery p x) = some cls) :
    delimit p x s = frameEnd p (endClass (s.rx.get p) cls) x s := by
  rcases x with (b | _ | _ | _ | _) | _
  case symbol.data =>
    simp only [delivery, bodyEnd, true_and, Option.ite_none_right_eq_some, Option.some.injEq] at h
    obtain ⟨hfull, rfl⟩ := h
    simp [delimit, hbody, bodyByte, hfull]
  case symbol.eof =>
    have : eofClass (s.rx.get p) = cls := by grind [delivery, bodyEnd, eofClass]
    simp [delimit, hbody, this]
  all_goals
    simp only [delivery, bodyEnd, if_true, Option.some.injEq] at h
    simp [delimit, hbody, ← h, endClass_aborted]

theorem delimit_countCodeError_of_bodyEnd (hbody : (s.rx.get p).delim = .body)
    (h : bodyEnd p (frameTotal (s.rx.get p)) (s.rx.get p) (delivery p x) = some cls) :
    delimit p x (countCodeError p x s) = frameEnd p (endClass (s.rx.get p) cls) x (countCodeError p x s) := by
  rw [countCodeError_eq]
  exact delimit_of_bodyEnd hbody h

end

/-- Settles O20: under the short-gap mark every end is ABORTED with nothing in its path, and a byte stays in the receiver. -/
theorem shortGapFrameReachesNothing : Obligations.ShortGapFrameReachesNothing := by
  refine ⟨fun p c s cls hreset hsynced hbody hgap hinbox hflight hcount hend => ?_,
    fun p b s hreset hdue hsynced hheader hgap hcount hlen => ?_,
    fun p b s hreset hdue hsynced hbody hgap => ?_⟩
  · intro limit bucket counters ended
    obtain ⟨x, rfl⟩ := exists_delivery_of_receivesOn (receivesOn_of_bodyEnd hend)
    have aborted := delimit_countCodeError_of_bodyEnd hbody hend
    rw [endClass, if_pos hgap] at aborted
    have adds : bucket = (s.ports.get p).bucket + additions .aborted x := by
      simp only [bucket, ite_codeError_eq_errorCount, additions_of_not_good (cls := .aborted) nofun]
      omega
    have hcounters : counters = countedEnd .aborted (withError x (s.portStats.get p)) := by
      simp only [counters, ite_codeError_eq_withError]
    refine ⟨fun hdue hlt => ?_, fun hpending hle => ?_⟩
    · refine (exec_delivery_ends_idle hreset hdue hsynced aborted (fun _ => hinbox) hflight (adds ▸ hlt) ?_ (u := ended)).trans ?_
      · simp [ended, adds, hcounters, PerPort.set_of_get_eq hinbox, rxAfterEnd_eq]
      · simp
    · refine ⟨_, exec_delivery_ends_full hreset hpending hsynced aborted nofun (adds ▸ hle), ?_⟩
      obtain ⟨hports, hrelay, hrx, hstats, hinbox', hslots, hnotice⟩ :=
        endedFull_countCodeError (p := p) (x := x) (s := s) (cls := .aborted) nofun
      refine ⟨hports, hrelay, hrx, hcounters ▸ hstats, hslots, hinbox'.trans (PerPort.set_of_get_eq hinbox), hnotice, fun h => ?_⟩
      rw [countCodeError_eq]
      exact endedFull_of_bypass (by exact h) hflight
  · refine (exec_delivery_of_synced (x := .symbol (.data b)) hreset hsynced).trans (congrArg _ ?_)
    rw [countCodeError_symbol, delimit_of_header_data hheader, headerByte_of_short_gap hcount hlen hgap]
    exact settleRestart_of_not_due hdue
  · have takes (hlt : (s.rx.get p).byteCount < frameTotal (s.rx.get p)) :
        exec (.receiveDataByte p b) s = .next (s.setRx p (bodyRx b (s.rx.get p))) := by
      rw [exec_receiveDataByte_of_body hreset hsynced hbody hlt, if_pos hgap]
      exact congrArg _ (settleRestart_of_not_due hdue)
    intro r total
    refine ⟨fun hlt => ?_, fun hle hlt => ?_⟩
    · exact (takes (Nat.lt_of_le_of_lt (Nat.le_add_right _ 2) hlt)).trans (by rw [bodyRx_of_payload hlt]; rfl)
    · exact (takes hlt).trans (by rw [bodyRx_of_check hle]; rfl)

/-- Settles O19: the decision says how the path closes; the receiver, the counters and the bucket are those of any frame's end. -/
theorem forwardedFrameEnds : Obligations.ForwardedFrameEnds := by
  intro p c s cls hreset hsynced hbody hgap hinbox hcount hend path limit adds counters ended
  obtain ⟨x, rfl⟩ := exists_delivery_of_receivesOn (receivesOn_of_bodyEnd hend)
  have ends := delimit_countCodeError_of_bodyEnd hbody hend
  have hclass : endClass (s.rx.get p) cls = cls := if_neg (by rw [hgap]; decide)
  rw [hclass] at ends
  have frame := countCodeError_eq p x s
  have hadds : adds = additions cls x := by simp only [adds, ite_codeError_eq_errorCount, additions]
  have hcounters : counters = countedEnd cls (withError x (s.portStats.get p)) := by
    simp only [counters, ite_codeError_eq_withError]
  have hended : ended = { s with
      rx := s.rx.set p (rxAfterEnd s.timestamp x (s.rx.get p))
      ports := s.ports.set p { s.ports.get p with bucket := (s.ports.get p).bucket + additions cls x }
      portStats := s.portStats.set p (countedEnd cls (withError x (s.portStats.get p)))
      inbox := s.inbox.set p none } := by
    simp only [ended, hadds, hcounters, rxAfterEnd_eq, delivery_eq_receiveSof_iff]
  rw [hadds]
  refine ⟨fun f fs y hflight hforward hstore hdue hrelay hlt => ?forward, fun hpending hcls hle => ?full,
    fun f hflight hdue hrelay hlt hverdict => ?noEffect, fun hflight hdue hlt => ?undecided⟩
  case forward =>
    intro marked
    have hmarked : marked = s.paths.set (dirIn p) (markedPath cls fs y path) := rfl
    refine ⟨fun hcommit => ?_, ?_⟩
    · rw [hended]
      refine exec_delivery_closes hreset hdue hsynced ends hinbox hrelay hlt (fun u hu => ?_) rfl
      rw [closeFlight_of_no_commit (by rw [hu]; exact hflight) hforward (by rw [hu]; exact hstore) hcommit, hu]
      rfl
    · obtain ⟨hpaths, hdir, hdue'⟩ := endedFrame_of_forward (p := p) (x := x) (cls := cls) (s := countCodeError p x s)
        (by rw [frame]; exact hflight) hforward (by rw [frame]; exact hstore)
      refine ⟨_, exec_delivery_ends_in_line hreset hsynced ends hinbox hrelay hlt (by rw [hdue', frame]; exact hdue), ?_⟩
      have fields := endedFrame_frame p cls x (countCodeError p x s)
      rw [hpaths, hdir] at fields
      rw [endedBelow, fields, frame, hended, hmarked]
      simp [path]
  case full =>
    obtain ⟨hports, hbypass, hrx, hstats, hinbox', hslots, hnotice⟩ := endedFull_countCodeError (p := p) (x := x) (s := s) hcls
    refine ⟨_, exec_delivery_ends_full hreset hpending hsynced ends hcls hle, hports, hbypass, hrx, hcounters ▸ hstats, hinbox',
      hslots, hnotice, fun hrelay => ?_, fun hrelay hflight => ?_⟩
    · rw [countCodeError_eq]
      have stores := endedFull_stores (p := p) (cls := cls) (x := x)
        (s := { s with portStats := s.portStats.set p (withError x (s.portStats.get p)) }) hrelay
      exact ⟨fun d => (stores d).1, fun d => (stores d).2, endedFull_queues hrelay⟩
    · rw [countCodeError_eq]
      exact endedFull_of_bypass hrelay hflight
  case noEffect =>
    rw [hended]
    refine exec_delivery_closes hreset hdue hsynced ends hinbox hrelay hlt (fun u hu => ?_) rfl
    rw [closeFlight_of_some (by rw [hu]; exact hflight), endVerdict_of_no_effect hverdict, hu]
  case undecided =>
    refine (exec_delivery_ends_idle hreset hdue hsynced ends hinbox hflight hlt hended).trans ?_
    simp

end Sys2Proof.Machine
end

section
/-! SUPPORT and proofs of RESET, the detectors and the port states: what each report, symbol and expiry of a port leaves (chapter 2). -/

namespace Sys2Proof.Machine

/-! ## Worked runs: statements of this family evaluated on states that meet their hypotheses -/

/-- Out of RESET on a dark line. -/
def darkPart : State := { State.reset with resetPin := false }

/-- A SYNCED port, its bucket as given. -/
def syncedWith (bucket : Nat) : PortBlock := { state := .synced, syncIdle := 0, bucket := bucket, coolDown := none }

/-- A part out of RESET with Port A as given and Port B SYNCED. -/
def partWith (x : PortBlock) (r : RelayState) : State := { darkPart with
  signal := ⟨true, true⟩, bypassPin := decide (r = .bypass), ports := ⟨x, syncedWith 0⟩
  relay := r, settle := if r = .joining then some 2 else none }

/-- A SYNCING port, its sync idle count as given. -/
def syncingWith (count : Nat) : PortBlock := { state := .syncing, syncIdle := count, bucket := 0, coolDown := none }

/-- O4: into RESET and out of it again, no detector reporting a signal. -/
example : ran [.resetAssert] darkPart = State.reset := by decide

example : ran [.resetRelease 0] State.reset = darkPart := by decide

/-- O5: RESET holds the part. -/
example : ran [.tick1ms, .receiveIdle .a, .codeError .b, .joinSettleExpiry] State.reset = State.reset := by decide

/-- O6: a DOWN port's signal. -/
example : ran [.signalPresent .a] darkPart = noted (portBit .a) { darkPart with
    signal := ⟨true, false⟩, ports := ⟨syncingWith 0, darkPart.ports.b⟩ } := by decide

/-- O8: one addition below the limit of 16, and the sixteenth. -/
example : (ran [.codeError .a] (partWith (syncedWith 14) .relay)).ports = (partWith (syncedWith 15) .relay).ports := by decide

example : (ran [.codeError .a] (partWith (syncedWith 15) .relay)).ports = (partWith faultedPort .bypass).ports := by decide

/-- O9: an IDLE and an SOF in SYNCING, and symbols in DOWN and FAULT. -/
example : ran [.receiveIdle .a] (partWith (syncingWith 30) .bypass) = partWith (syncingWith 31) .bypass := by decide

example : ran [.receiveSof .a] (partWith (syncingWith 30) .bypass) = partWith (syncingWith 0) .bypass := by decide

example : ran [.receiveSof .a, .receiveDataByte .a 0x55] darkPart = darkPart := by decide

example : ran [.receiveIdle .a, .receiveEof .a] (partWith faultedPort .bypass) = partWith faultedPort .bypass := by decide

/-- O10: the settle timer's end in JOINING, and both rows where no timer runs. -/
example : ran [.joinSettleExpiry] (partWith (syncedWith 0) .joining) = partWith (syncedWith 0) .relay := by decide

example : ran [.coolDownExpiry .b, .joinSettleExpiry] (partWith faultedPort .bypass) = partWith faultedPort .bypass := by decide

/-! ## A port's change of state and its event (R17, R172) -/

section
variable {p : Port} {s : State}

theorem startSync_of_not_relays (h : s.relay.relays = false) : startSync p s = noted (portBit p) { s with
    ports := s.ports.set p { s.ports.get p with state := .syncing, syncIdle := 0 } } :=
  addEvent_of_not_relays _ h

theorem releasePort_of_not_relays (h : s.relay.relays = false) : releasePort p s = { s with
    ports := s.ports.set p
      (if s.signal.get p then { s.ports.get p with state := .syncing, syncIdle := 0 } else s.ports.get p)
    notice := { s.notice with
      pending := s.notice.pending ||| if s.signal.get p then portBit p else 0
      marks := s.notice.marks ||| if s.signal.get p then portBit p else 0 } } := by
  unfold releasePort
  split
  · exact startSync_of_not_relays h
  · simp [PerPort.set_get_self]

end

/-- Settles O4: the release acts on one port after the other, in BYPASS, where an event places no NOTICE. -/
theorem resetTakesAndReleasesThePart : Obligations.ResetTakesAndReleasesThePart := by
  refine ⟨fun s => rfl, fun straps s hreset hrelay => ?_, fun straps s hreset => ?_⟩
  · refine (if_pos hreset).trans (congrArg _ ?_)
    rw [releasePort_of_not_relays (p := .a) (by rw [hrelay]; rfl), releasePort_of_not_relays (p := .b) (by rw [hrelay]; rfl)]
    rfl
  · exact if_neg (by rw [hreset]; decide)

/-! ## Loss of signal, and a port's way out of the line (R12, R17, R28) -/

section
variable {p : Port} {s : State}

/-- R17: a port that has lost its signal, as its detector reports. -/
def lostPort (p : Port) (s : State) : State := { s with
  signal := s.signal.set p false
  ports := s.ports.set p { s.ports.get p with state := .down, syncIdle := 0, coolDown := none } }

theorem exec_lossOfSignal_of_not_synced (hreset : s.resetPin = false) (hdown : (s.ports.get p).state ≠ .down)
    (h : (s.ports.get p).state ≠ .synced) :
    exec (.lossOfSignal p) s = .next (settleRestart (addEvent (portBit p) (lostPort p s))) := by
  refine (if_pos ⟨hreset, hdown⟩).trans (congrArg (fun t => Host.Outcome.next (settleRestart t)) ?_)
  exact congrArg (addEvent (portBit p)) (if_neg h)

/-- R17, R28: out of the line no NOTICE is placed. -/
theorem exec_lossOfSignal_of_synced (hreset : s.resetPin = false) (h : (s.ports.get p).state = .synced) :
    exec (.lossOfSignal p) s = .next (settleRestart (noted (portBit p) (outOfLine (cutFrame p (lostPort p s))))) := by
  have hdown : (s.ports.get p).state ≠ .down := by rw [h]; decide
  refine (if_pos ⟨hreset, hdown⟩).trans (congrArg (fun t => Host.Outcome.next (settleRestart t)) ?_)
  refine (congrArg (addEvent (portBit p)) (if_pos h)).trans ?_
  exact addEvent_of_not_relays _ (congrArg RelayState.relays (outOfLine_relay (cutFrame p (lostPort p s))))

theorem cutFrame_of_gap (h : (s.rx.get p).delim = .gap) : cutFrame p s = s := if_pos h

theorem cutFrame_of_no_flight (h : (s.rx.get p).delim ≠ .gap) (hflight : (s.paths.get (dirIn p)).flight = none) :
    cutFrame p s = (s.setInbox p none).setRx p (afterEnd (s.rx.get p)) := by
  rw [cutFrame, if_neg h, closeFlight_of_none hflight]
  rfl

/-- R12, R44: the frame cut off makes no commit, adds no event and is not counted. -/
theorem cutFrame_frame (p : Port) (s : State) : cutFrame p s = { s with
    rx := s.rx.set p (cutRx (s.rx.get p)), inbox := (cutFrame p s).inbox, paths := (cutFrame p s).paths
    queues := (cutFrame p s).queues, dirStats := (cutFrame p s).dirStats, proxyStats := (cutFrame p s).proxyStats } := by
  unfold cutFrame cutRx
  split
  · simp
  · obtain ⟨hslots, hnotice⟩ := closeFlight_of_not_good (cls := .aborted) nofun p s
    rw [closeFlight_frame, hslots, hnotice]
    rfl

theorem toNat_satAdd {w : Nat} (x : BitVec w) (n : Nat) : (satAdd x n).toNat = min (x.toNat + n) (2 ^ w - 1) := by
  have := Nat.two_pow_pos w
  exact Nat.mod_eq_of_lt (by omega)

/-- Additions to a saturating counter add up. -/
theorem satAdd_satAdd {w : Nat} (x : BitVec w) (m n : Nat) : satAdd (satAdd x m) n = satAdd x (m + n) := by
  apply BitVec.eq_of_toNat_eq
  simp only [toNat_satAdd]
  omega

/-- R124: what is withdrawn from a queue before it is emptied is counted once. -/
theorem withdrawFrom_withdrawn (t : EntryBody → Bool) (p q : Port) (s : State) :
    satAdd ((withdrawFrom t p s).dirStats.get (dirOut q)).withdrawn ((withdrawFrom t p s).queues.get q).entries.length
      = satAdd (s.dirStats.get (dirOut q)).withdrawn (s.queues.get q).entries.length := by
  by_cases h : p = q
  · subst h
    have length := List.length_eq_length_filter_add (l := (s.queues.get p).entries) fun e => t e.body
    simp only [withdrawFrom, State.bumpDir_dirStats, State.bumpDir_queues, State.setQueue_queues, State.setQueue_dirStats,
      PerDir.get_set_self, PerPort.get_set_self, satAdd_satAdd]
    rw [← length]
  · simp only [withdrawFrom, State.bumpDir_dirStats, State.bumpDir_queues, State.setQueue_queues, State.setQueue_dirStats,
      PerPort.get_set_of_ne _ _ h, PerDir.get_set_of_ne _ _ (mt dirOut_injective h)]

theorem endVerdict_tx (cls : EndClass) (f : InFlight) (s : State) (d : Dir) :
    ((endVerdict p cls f s).paths.get d).tx = (s.paths.get d).tx := by
  unfold endVerdict
  split
  · rw [endCommit_paths]
    refine PerDir.map_get_set (fun w : RelayPath => w.tx) s.paths ?_ d
    rfl
  · rw [endCommit_paths]
  · split
    · rw [pollEnd_frame]
    · rfl
  all_goals rfl

theorem closeFlight_tx (p : Port) (cls : EndClass) (s : State) (d : Dir) :
    ((closeFlight p cls s).paths.get d).tx = (s.paths.get d).tx := by
  unfold closeFlight
  split
  · rfl
  · refine (PerDir.map_get_set (fun w : RelayPath => w.tx) _ ?_ d).trans (endVerdict_tx cls _ s d)
    rfl

theorem pollEnd_withdrawn (cls : EndClass) (h : cls ≠ .good) (n : Fin 32) (g : Byte) (q : Port) :
    satAdd ((pollEnd p cls n g s).dirStats.get (dirOut q)).withdrawn ((pollEnd p cls n g s).queues.get q).entries.length
      = satAdd (s.dirStats.get (dirOut q)).withdrawn (s.queues.get q).entries.length := by
  unfold pollEnd
  rw [if_neg h]
  split
  · exact withdrawFrom_withdrawn _ p q s
  · rfl

theorem endVerdict_withdrawn (cls : EndClass) (h : cls ≠ .good) (f : InFlight) (q : Port) :
    satAdd ((endVerdict p cls f s).dirStats.get (dirOut q)).withdrawn
        ((endVerdict p cls f s).queues.get q).entries.length
      = satAdd (s.dirStats.get (dirOut q)).withdrawn (s.queues.get q).entries.length := by
  unfold endVerdict
  split
  · rw [endCommit_of_not_good h]
    rfl
  · rw [endCommit_of_not_good h]
  · split
    · exact pollEnd_withdrawn cls h _ _ q
    · rfl
  all_goals rfl

theorem closeFlight_withdrawn (cls : EndClass) (h : cls ≠ .good) (q : Port) :
    satAdd ((closeFlight p cls s).dirStats.get (dirOut q)).withdrawn ((closeFlight p cls s).queues.get q).entries.length
      = satAdd (s.dirStats.get (dirOut q)).withdrawn (s.queues.get q).entries.length := by
  unfold closeFlight
  split
  · rfl
  · exact endVerdict_withdrawn cls h _ q

/-- R12, R53: a frame cut off leaves each store its frames and each transmitter where it stands, counts none poisoned, and counts what
it withdraws. -/
theorem cutFrame_traffic (p : Port) (s : State) :
    (∀ d, ((cutFrame p s).paths.get d).store.length = (s.paths.get d).store.length
      ∧ ((cutFrame p s).dirStats.get d).poisoned = (s.dirStats.get d).poisoned
      ∧ ((cutFrame p s).paths.get d).tx = (s.paths.get d).tx)
    ∧ ∀ q, satAdd ((cutFrame p s).dirStats.get (dirOut q)).withdrawn ((cutFrame p s).queues.get q).entries.length
        = satAdd (s.dirStats.get (dirOut q)).withdrawn (s.queues.get q).entries.length := by
  unfold cutFrame
  split
  · exact ⟨fun _ => ⟨rfl, rfl, rfl⟩, fun _ => rfl⟩
  · refine ⟨fun d => ?_, closeFlight_withdrawn .aborted nofun⟩
    obtain ⟨hstore, hpoisoned⟩ := closeFlight_stores p .aborted s d
    exact ⟨hstore, hpoisoned, closeFlight_tx p .aborted s d⟩

theorem flushQueue_withdrawn (p q : Port) (s : State) :
    ((flushQueue p s).dirStats.get (dirOut q)).withdrawn
      = if p = q then satAdd (s.dirStats.get (dirOut q)).withdrawn (s.queues.get q).entries.length
        else (s.dirStats.get (dirOut q)).withdrawn := by
  simp only [flushQueue, State.bumpDir_dirStats, State.setQueue_dirStats]
  split
  · subst q
    rw [PerDir.get_set_self]
  · rw [PerDir.get_set_of_ne _ _ (mt dirOut_injective ‹_›)]

theorem cutOutput_withdrawn (p : Port) (s : State) (d : Dir) :
    ((cutOutput p s).dirStats.get d).withdrawn = (s.dirStats.get d).withdrawn := by
  refine PerDir.map_get_set (fun c : DirCounters => c.withdrawn) s.dirStats ?_ d
  rfl

theorem enterBypass_withdrawn (s : State) (q : Port) :
    ((enterBypass s).dirStats.get (dirOut q)).withdrawn
      = satAdd (s.dirStats.get (dirOut q)).withdrawn (s.queues.get q).entries.length := by
  have queue_b : ∀ t : State, (flushQueue .a t).queues.get .b = t.queues.get .b := fun _ => rfl
  have queues : ∀ p t, (cutOutput p t).queues = t.queues := fun _ _ => rfl
  cases q <;> simp [enterBypass, flushQueue_withdrawn, cutOutput_withdrawn, queue_b, queues]

theorem enterBypass_tx (s : State) (q : Port) :
    ((enterBypass s).paths.get (dirOut q)).tx
      = cutTx (decide ((s.ports.get q).state = .synced)) (s.paths.get (dirOut q)).tx := by
  cases q <;> rfl

theorem enterBypass_bypassPin (s : State) : (enterBypass s).bypassPin = (s.bypassPin || decide (s.relay = .joining)) := by
  unfold enterBypass
  rw [flushQueue_frame, flushQueue_frame, cutOutput_frame, cutOutput_frame]

/-- R12, R28: what the cut-off of a frame and the entry to BYPASS change between them. -/
theorem enterBypass_cutFrame (p : Port) (s : State) : enterBypass (cutFrame p s) = { s with
    rx := s.rx.set p (cutRx (s.rx.get p)), inbox := (cutFrame p s).inbox
    relay := .bypass, settle := none, bypassPin := s.bypassPin || decide (s.relay = .joining)
    paths := (enterBypass (cutFrame p s)).paths, queues := (enterBypass (cutFrame p s)).queues
    dirStats := (enterBypass (cutFrame p s)).dirStats, proxyStats := (cutFrame p s).proxyStats } := by
  have cut := cutFrame_frame p s
  have hrelay : (cutFrame p s).relay = s.relay := by rw [cut]
  have hpin : (cutFrame p s).bypassPin = s.bypassPin := by rw [cut]
  rw [enterBypass_frame, enterBypass_bypassPin, hrelay, hpin, cut]

/-- R28: a frame being sent is ended by its ABORT on a port still SYNCED, and cut off or discarded elsewhere. -/
theorem cutTx_through (synced sent : Bool) :
    cutTx synced (.through sent) = if synced = true ∧ sent = true then .closing false else .between 2 := by
  cases synced <;> cases sent <;> rfl

theorem cutTx_injection (synced sent : Bool) (bs : List Byte) :
    cutTx synced (.injection sent bs false) = if synced = true ∧ sent = true then .closing false else .between 2 := by
  cases synced <;> cases sent <;> rfl

theorem lostPort_state (p q : Port) (hsynced : (s.ports.get q).state = .synced) :
    decide (((lostPort p s).ports.get q).state = .synced) = true ↔ q ≠ p := by
  rw [decide_eq_true_iff, lostPort, PerPort.get_set]
  split
  · simp [*]
  · simp [hsynced, Ne.symm ‹_›]

end


/-- Settles O6: each report acts on the port's state alone, but that a SYNCED port's loss cuts its frame off. -/
theorem detectorReportsMoveThePort : Obligations.DetectorReportsMoveThePort := by
  refine ⟨⟨fun p s hreset hrelay hdown => ?present, fun p s h => if_neg fun ⟨hreset, hdown⟩ => ?standsUp⟩,
    fun p s hreset hrelay hdown hgap hdue => ?idle, fun p s hreset hrelay hsynced hframe hflight hdue => ?inFrame,
    fun p s h => if_neg fun ⟨hreset, hup⟩ => ?standsDown⟩
  case present => exact (if_pos ⟨hreset, hdown⟩).trans (congrArg _ (startSync_of_not_relays hrelay))
  case standsUp => exact h.elim (ne_true_of_eq_false hreset) fun hup => hup hdown
  case idle =>
    refine Eq.trans ?_ (congrArg _ (settleRestart_of_not_due hdue))
    by_cases hsynced : (s.ports.get p).state = .synced
    · rw [exec_lossOfSignal_of_synced hreset hsynced, cutFrame_of_gap (s := lostPort p s) hgap,
        outOfLine_of_bypass (s := lostPort p s) hrelay]
      rfl
    · rw [exec_lossOfSignal_of_not_synced hreset hdown hsynced,
        addEvent_of_not_relays (s := lostPort p s) _ (congrArg RelayState.relays hrelay)]
      rfl
  case inFrame =>
    rw [exec_lossOfSignal_of_synced hreset hsynced, cutFrame_of_no_flight (s := lostPort p s) hframe hflight,
      outOfLine_of_bypass (by exact hrelay)]
    exact congrArg _ (settleRestart_of_not_due hdue)
  case standsDown => exact h.elim (ne_true_of_eq_false hreset) hup

/-- Settles O7: the loss leaves what the frame cut off leaves, taken out of the line, with the port's event. -/
theorem leavingSyncedEntersBypass : Obligations.LeavingSyncedEntersBypass := by
  intro p s hreset hpending hrelay ha hb
  have hsynced (q : Port) : (s.ports.get q).state = .synced := by cases q <;> assumption
  have hrelay' : (cutFrame p (lostPort p s)).relay ≠ .bypass := by rw [cutFrame_frame]; exact hrelay
  have frame := enterBypass_cutFrame p (lostPort p s)
  have hports : (cutFrame p (lostPort p s)).ports = (lostPort p s).ports := by rw [cutFrame_frame]
  obtain ⟨htraffic, hwithdrawn⟩ := cutFrame_traffic p (lostPort p s)
  have hcut (q : Port) (sent : Bool) (tx : Tx) (htx : (s.paths.get (dirOut q)).tx = tx)
      (h : ∀ synced, cutTx synced tx = if synced = true ∧ sent = true then .closing false else .between 2) :
      ((enterBypass (cutFrame p (lostPort p s))).paths.get (dirOut q)).tx
        = if q ≠ p ∧ sent = true then .closing false else .between 2 := by
    obtain ⟨-, -, stands⟩ := htraffic (dirOut q)
    rw [enterBypass_tx, hports, stands, show ((lostPort p s).paths.get (dirOut q)).tx = tx from htx, h]
    simp only [lostPort_state p q (hsynced q)]
  refine ⟨noted (portBit p) (enterBypass (cutFrame p (lostPort p s))), ?_, ?_⟩
  · rw [exec_lossOfSignal_of_synced hreset (hsynced p), outOfLine_of_ne_bypass hrelay', settleRestart_of_not_pending]
    rw [noted, frame]
    exact hpending
  simp only [noted]
  refine ⟨rfl, rfl, ?_, ?_, enterBypass_queues _, enterBypass_paths _,
    fun q => (enterBypass_withdrawn _ q).trans (hwithdrawn q), fun d => ?_,
    fun q sent htx => hcut q sent _ htx fun _ => cutTx_through ..,
    fun q sent bs htx => hcut q sent _ htx fun _ => cutTx_injection .., ?_⟩
  · rw [frame]
    rfl
  · rw [frame]
    rfl
  · obtain ⟨hstore, hpoisoned, -⟩ := htraffic d
    refine (enterBypass_poisoned _ d).trans ?_
    rw [hstore, hpoisoned]
    rfl
  · rw [frame]
    exact ⟨rfl, rfl, rfl, rfl, rfl, rfl, rfl, rfl, rfl, rfl, rfl⟩

/-! ## The error bucket (R20, R22) and the port states (R17 to R19) -/

section
variable {p : Port} {s : State}

/-- R20: the limit reached between frames, so that no frame is cut off. -/
theorem enterFault_of_gap (h : (s.rx.get p).delim = .gap) :
    enterFault [p] s = noted (portBit p) (outOfLine (setFault p s)) := by
  have left : leaveSynced [p] (setFault p s) = outOfLine (cutFrame p (setFault p s)) := rfl
  rw [cutFrame_of_gap (s := setFault p s) h] at left
  refine Eq.trans ?_ (addEvent_of_not_relays _ (by rw [outOfLine_relay]; rfl))
  rw [← left]
  rfl

/-- R8, R13: a code error between frames is one more byte time and is counted. -/
def erredInGap (p : Port) (s : State) : State := { s with
  rx := s.rx.set p (gapSymbol (s.rx.get p))
  portStats := s.portStats.set p (countedError (s.portStats.get p)) }

theorem exec_codeError_of_gap (hreset : s.resetPin = false) (hsynced : (s.ports.get p).state = .synced)
    (hgap : (s.rx.get p).delim = .gap) :
    exec (.codeError p) s = .next (settleRestart (bucketAdd p 1 (erredInGap p s))) := by
  refine (exec_delivery_of_synced (x := .codeError) hreset hsynced).trans ?_
  rw [countCodeError_eq, delimit_of_gap (by exact hgap) (by decide)]
  rfl

/-- R17, R22: the code error that fills the bucket. -/
theorem exec_codeError_of_full (hreset : s.resetPin = false) (hsynced : (s.ports.get p).state = .synced)
    (hgap : (s.rx.get p).delim = .gap) (h : (s.settings.bucketLimit.get p).toNat ≤ (s.ports.get p).bucket + 1) :
    exec (.codeError p) s
      = .next (settleRestart (noted (portBit p) (outOfLine (setFault p (erredInGap p s))))) := by
  rw [exec_codeError_of_gap hreset hsynced hgap, bucketAdd_of_le (s := erredInGap p s) (by decide) hsynced h, enterFault_of_gap]
  simpa [erredInGap, gapSymbol] using hgap

theorem setFault_erredInGap : setFault p (erredInGap p s) = { s with
    rx := s.rx.set p (gapSymbol (s.rx.get p))
    ports := s.ports.set p faultedPort
    portStats := s.portStats.set p (countedFault (countedError (s.portStats.get p))) } := by
  simp only [setFault, erredInGap, State.bumpPort, State.setPort, PerPort.get_set_self, PerPort.set_set]
  rfl

end

/-- Settles O8: the code error is counted, and the bucket stays below the limit or the port enters FAULT. -/
theorem codeErrorFillsBucket : Obligations.CodeErrorFillsBucket := by
  refine ⟨fun p s hreset hsynced hgap hlt hdue => ?_, fun p s hreset hsynced hgap hle hdue hrelay => ?_,
    fun p s hreset hsynced hgap hle hpending hrelay => ?_⟩
  · rw [exec_codeError_of_gap hreset hsynced hgap, bucketAdd_of_lt (s := erredInGap p s) hsynced hlt]
    exact congrArg _ (settleRestart_of_not_due hdue)
  · rw [exec_codeError_of_full hreset hsynced hgap hle, setFault_erredInGap, outOfLine_of_bypass (by exact hrelay)]
    exact congrArg _ (settleRestart_of_not_due hdue)
  · have frame := enterBypass_frame (setFault p (erredInGap p s))
    refine ⟨noted (portBit p) (enterBypass (setFault p (erredInGap p s))), ?_, ?_⟩
    · rw [exec_codeError_of_full hreset hsynced hgap hle, outOfLine_of_ne_bypass (by rw [setFault_erredInGap]; exact hrelay),
        settleRestart_of_not_pending]
      rw [noted, frame]
      exact hpending
    · simp only [noted]
      refine ⟨rfl, ?_, ?_, enterBypass_queues _, ?_⟩
      · rw [frame, setFault_erredInGap]
        rfl
      · rw [frame, setFault_erredInGap]
        rfl
      · rw [frame, setFault_erredInGap]

section
variable {p : Port} {x : LineEvent} {s : State}

theorem exec_delivery_of_released (hreset : s.resetPin = false) :
    exec (delivery p x) s = .next (settleRestart (receive p x s)) := by
  simp [exec_delivery, receiveRow, hreset]

theorem receive_of_syncing (h : (s.ports.get p).state = .syncing) :
    receive p x s = synchronise p x (countCodeError p x s) := by simp [receive, h]

theorem receive_of_down (h : (s.ports.get p).state = .down) : receive p x s = s := by simp [receive, h]

theorem receive_of_fault (h : (s.ports.get p).state = .fault) : receive p x s = countCodeError p x s := by simp [receive, h]

theorem synchronise_idle_of_lt (h : (s.ports.get p).syncIdle + 1 < 32) :
    synchronise p (.symbol .idle) s = s.setPort p { s.ports.get p with syncIdle := (s.ports.get p).syncIdle + 1 } := by
  rw [synchronise, if_pos rfl, if_neg (Nat.not_le.mpr h)]

theorem synchronise_idle_of_le (h : 32 ≤ (s.ports.get p).syncIdle + 1) : synchronise p (.symbol .idle) s = portSynced p s := by
  rw [synchronise, if_pos rfl, if_pos h]

theorem synchronise_of_not_idle (h : x ≠ .symbol .idle) :
    synchronise p x s = s.setPort p { s.ports.get p with syncIdle := 0 } := if_neg h

/-- R17, R18: a port that has become SYNCED, its receiver in GAP. -/
def syncedPort (p : Port) (s : State) : State := { s with
  ports := s.ports.set p { s.ports.get p with state := .synced, syncIdle := 0 }
  rx := s.rx.set p { s.rx.get p with
    delim := .gap, gapCount := 2, byteCount := 0, header := [], checkBytes := [], shortGap := false } }

/-- R17, R26: in BYPASS the 32nd IDLE may bring JOINING about, and places no NOTICE. -/
theorem portSynced_of_bypass (h : s.relay = .bypass) :
    portSynced p s = joinedAfterEnd p s (noted (portBit p) (syncedPort p s)) := by
  have join : joinCheck (syncedPort p s) = joinedAfterEnd p s (syncedPort p s) := by
    apply joinCheck_of_gap <;> simp [syncedPort, PerPort.get_set_otherPort]
  have events : portSynced p s = addEvent (portBit p) (joinCheck (syncedPort p s)) := rfl
  rw [events, join]
  unfold joinedAfterEnd
  split
  · exact addEvent_of_not_relays _ rfl
  · exact addEvent_of_not_relays _ (congrArg RelayState.relays h)

end

/-- Settles O9: what each port state does with a byte time, the 32nd IDLE in BYPASS included. -/
theorem portsTakeSymbolsByState : Obligations.PortsTakeSymbolsByState := by
  refine ⟨fun p s hreset hsyncing hdue => ⟨fun hlt => ?idle, fun c hc => ?symbol, ?error⟩,
    fun p s hreset hrelay hsyncing hcount hdue => ?last,
    fun p s c hreset hdue hc hdown => ?down, fun p s c hreset hdue hc hx hfault => ?discarded,
    fun p s hreset hdue hfault => ?counted⟩
  case idle =>
    refine (exec_delivery_of_released (x := .symbol .idle) hreset).trans ?_
    rw [receive_of_syncing hsyncing, countCodeError_symbol, synchronise_idle_of_lt hlt]
    exact congrArg _ (settleRestart_of_not_due hdue)
  case symbol =>
    obtain ⟨y, rfl, hy⟩ : ∃ y, c = delivery p (.symbol y) ∧ y ≠ .idle := by
      obtain rfl | rfl | rfl | ⟨b, rfl⟩ := hc
      · exact ⟨.sof, rfl, nofun⟩
      · exact ⟨.eof, rfl, nofun⟩
      · exact ⟨.abort, rfl, nofun⟩
      · exact ⟨.data b, rfl, nofun⟩
    rw [exec_delivery_of_released hreset, receive_of_syncing hsyncing, countCodeError_symbol,
      synchronise_of_not_idle (by simpa using hy)]
    exact congrArg _ (settleRestart_of_not_due hdue)
  case error =>
    refine (exec_delivery_of_released (x := .codeError) hreset).trans ?_
    rw [receive_of_syncing hsyncing, countCodeError_eq, synchronise_of_not_idle (by decide)]
    exact congrArg _ (settleRestart_of_not_due hdue)
  case last =>
    intro u
    have due : restartDue (joinedAfterEnd p s (noted (portBit p) (syncedPort p s))) = false :=
      (restartDue_joinedAfterEnd ..).trans hdue
    refine (exec_delivery_of_released (x := .symbol .idle) hreset).trans ?_
    rw [receive_of_syncing hsyncing, countCodeError_symbol, synchronise_idle_of_le (by omega), portSynced_of_bypass hrelay,
      settleRestart_of_not_due due, joinedAfterEnd]
    simp only [hrelay, true_and]
    rfl
  case down =>
    obtain ⟨x, rfl⟩ := exists_delivery_of_receivesOn hc
    rw [exec_delivery_of_released hreset, receive_of_down hdown, settleRestart_of_not_due hdue]
  case discarded =>
    obtain ⟨x, rfl⟩ := exists_delivery_of_receivesOn hc
    have : x ≠ .codeError := by
      rintro rfl
      exact hx rfl
    rw [exec_delivery_of_released hreset, receive_of_fault hfault, countCodeError_of_ne this, settleRestart_of_not_due hdue]
  case counted =>
    refine (exec_delivery_of_released (x := .codeError) hreset).trans ?_
    rw [receive_of_fault hfault, countCodeError_eq]
    exact congrArg _ (settleRestart_of_not_due hdue)

/-! ## Cool-down and settle (R22, R27) -/

/-- Settles O10: out of FAULT and out of JOINING the guards shut the rows out; the two timers' ends are the model's own functions. -/
theorem coolDownAndSettleExpire : Obligations.CoolDownAndSettleExpire := by
  refine ⟨⟨fun p s hreset hrelay hfault hruns => ?_, fun p s h => if_neg fun hall => h hall.2.1⟩,
    fun s hreset hjoining hlatch => ?_, fun s hreset hjoining hlatch => ?_, fun s h => if_neg fun hall => h hall.2⟩
  · exact (if_pos ⟨hreset, hfault, hruns⟩).trans (congrArg _ (addEvent_of_not_relays _ hrelay))
  · refine (if_pos ⟨hreset, hjoining⟩).trans (congrArg _ ?_)
    rw [settleExpiry, if_neg (by rw [hlatch]; decide)]
    rfl
  · refine (if_pos ⟨hreset, hjoining⟩).trans (congrArg _ ?_)
    rw [settleExpiry, if_pos hlatch]
    rfl

end Sys2Proof.Machine
end

section
/-! SUPPORT and proof of the line's invariant (LineOk): each operation either keeps the line as it stands (LineKept), or moves a port, the
relay state or the latch, and leaves a line that stands again (LiveOk). -/

namespace Sys2Proof.Machine

/-! ## Where a part stands in the line -/

/-- R130: whether a beacon slot's timer runs; none for a slot of another kind. -/
def Slot.beaconRuns (x : Slot) : Option Bool :=
  match x.body with
  | .beacon y => some y.timer.isSome
  | _ => none

theorem Slot.beaconTimer_eq_none_iff (x : Slot) : x.beaconTimer = none ↔ x.beaconRuns ≠ some true := by
  unfold Slot.beaconTimer Slot.beaconRuns
  cases x.body <;> simp

theorem Slot.timer_ne_none_iff (x : Slot) : (∀ y, x.body = .beacon y → y.timer ≠ none) ↔ x.beaconRuns ≠ some false := by
  unfold Slot.beaconRuns
  cases x.body <;> simp [Option.ne_none_iff_isSome]

/-- R28, R118: no frame and no entry waits in the part, and no decision stands. -/
def Idle (s : State) : Prop :=
  (∀ p, s.queues.get p = { entries := [], held := false })
  ∧ ∀ d, (s.paths.get d).store = [] ∧ (s.paths.get d).flight = none

/-- RESET, the relay state, the fallback latch, whether the settle timer runs, and the state of each port with whether its cool-down
runs. -/
def State.standing (s : State) : Bool × RelayState × Bool × Bool × (Port → PortState × Bool) :=
  (s.resetPin, s.relay, s.latch, s.settle.isSome, fun p => ((s.ports.get p).state, (s.ports.get p).coolDown.isSome))

/-- What an operation keeps that moves neither a port nor the relay state nor the latch: t stands in the line as s does. The BYPASS
output may move in BYPASS, an owner may go, a slot may be set up afresh as the latch has it, and what waits may change while frames
are relayed. -/
def LineKept (s t : State) : Prop :=
  t.standing = s.standing
  ∧ (s.relay ≠ .bypass → t.bypassPin = s.bypassPin)
  ∧ (s.owner = none → t.owner = none)
  ∧ (∀ n : Fin 32, t.slots[n].beaconRuns = s.slots[n].beaconRuns ∨ ∀ b, t.slots[n].beaconRuns = some b → b = !s.latch)
  ∧ (s.relay.relays = false → Idle s → Idle t)

/-- LineOk of a part out of reset. -/
def LiveOk (s : State) : Prop := s.resetPin = false ∧ LineOk s

/-- LineOk of a part out of reset but for what it says of the ports outside BYPASS, so that it holds once both are SYNCED: this much
still stands while a port has left SYNCED and the part is on its way to BYPASS. -/
def PartOk (s : State) : Prop :=
  (∀ p, (s.ports.get p).coolDown ≠ none ↔ (s.ports.get p).state = .fault)
  ∧ LiveOk { s with ports := ⟨{ PortBlock.reset with state := .synced }, { PortBlock.reset with state := .synced }⟩ }

namespace LineKept

section
variable {s t u : State}

theorem resetPin (h : LineKept s t) : t.resetPin = s.resetPin := congrArg (·.1) h.1

theorem relay (h : LineKept s t) : t.relay = s.relay := congrArg (·.2.1) h.1

theorem latch (h : LineKept s t) : t.latch = s.latch := congrArg (·.2.2.1) h.1

theorem settle (h : LineKept s t) : t.settle.isSome = s.settle.isSome := congrArg (·.2.2.2.1) h.1

theorem state (h : LineKept s t) (p : Port) : (t.ports.get p).state = (s.ports.get p).state :=
  congrArg (fun x => (x.2.2.2.2 p).1) h.1

theorem coolDown (h : LineKept s t) (p : Port) : (t.ports.get p).coolDown.isSome = (s.ports.get p).coolDown.isSome :=
  congrArg (fun x => (x.2.2.2.2 p).2) h.1

theorem relays (h : LineKept s t) (hr : s.relay.relays = true) : t.relay.relays = true := h.relay ▸ hr

theorem refl (s : State) : LineKept s s :=
  ⟨rfl, fun _ => rfl, fun ho => ho, fun _ => .inl rfl, fun _ hi => hi⟩

theorem of_eq (h : t = s) : LineKept s t := h ▸ refl s

theorem trans (h : LineKept s t) (k : LineKept t u) : LineKept s u := by
  have relay := h.relay
  have latch := h.latch
  obtain ⟨hstand, hpin, howner, hbeacons, hidle⟩ := h
  obtain ⟨kstand, kpin, kowner, kbeacons, kidle⟩ := k
  rw [relay] at kpin kidle
  rw [latch] at kbeacons
  refine ⟨kstand.trans hstand, fun hr => (kpin hr).trans (hpin hr), fun ho => kowner (howner ho), fun n => ?_,
    fun hr hi => kidle hr (hidle hr hi)⟩
  rcases kbeacons n with hk | hk
  · rw [hk]; exact hbeacons n
  · exact .inr hk

/-- An operation that touches nothing of the line. -/
theorem of_apart (h : t = { t with
    resetPin := s.resetPin, bypassPin := s.bypassPin, relay := s.relay, latch := s.latch, settle := s.settle
    owner := s.owner, ports := s.ports, slots := s.slots, queues := s.queues, paths := s.paths }) : LineKept s t := by
  rw [h]
  exact refl s

theorem of_owner {o : Option Owner} (h : s.owner = none → o = none) : LineKept s { s with owner := o } :=
  ⟨rfl, fun _ => rfl, h, fun _ => .inl rfl, fun _ hi => hi⟩

theorem of_beacons {v : Vector Slot 32} (h : ∀ n : Fin 32, v[n].beaconRuns = s.slots[n].beaconRuns
    ∨ ∀ b, v[n].beaconRuns = some b → b = !s.latch) : LineKept s { s with slots := v } :=
  ⟨rfl, fun _ => rfl, fun ho => ho, h, fun _ hi => hi⟩

theorem of_traffic {q : PerPort Queue} {w : PerDir RelayPath}
    (h : s.relay.relays = false → Idle s → Idle { s with queues := q, paths := w }) :
    LineKept s { s with queues := q, paths := w } :=
  ⟨rfl, fun _ => rfl, fun ho => ho, fun _ => .inl rfl, h⟩

theorem of_relays (hr : s.relay.relays = true) {q : PerPort Queue} {w : PerDir RelayPath} :
    LineKept s { s with queues := q, paths := w } :=
  of_traffic fun hn => by rw [hr] at hn; cases hn

theorem foldl {α : Type} {f : State → α → State} (hf : ∀ s a, LineKept s (f s a)) (l : List α) (s : State) :
    LineKept s (l.foldl f s) := by
  induction l generalizing s with
  | nil => exact refl s
  | cons a l ih => exact (hf s a).trans (ih _)

theorem lineOk (h : LineKept s t) (hreset : s.resetPin = false) (hs : LineOk s) : LineOk t := by
  have resetPin := h.resetPin
  have relay := h.relay
  have latch := h.latch
  have settle := h.settle
  have state := h.state
  have coolDown := h.coolDown
  obtain ⟨-, hpin, howner, hbeacons, hidle⟩ := h
  have idle (hr : t.relay.relays = false) : Idle t :=
    hidle (relay ▸ hr) ⟨hs.queues (relay ▸ hr), hs.paths (relay ▸ hr)⟩
  exact {
    synced := fun hr => by
      obtain ⟨ha, hb⟩ := hs.synced (relay ▸ hr)
      exact ⟨(state .a).trans ha, (state .b).trans hb⟩
    released := fun hr => (hpin (relay ▸ hr)).trans (hs.released (relay ▸ hr))
    settle := by
      rw [← Option.isSome_iff_ne_none, settle, relay, Option.isSome_iff_ne_none]
      exact hs.settle
    coolDown := fun p => by
      rw [← Option.isSome_iff_ne_none, coolDown, state, Option.isSome_iff_ne_none]
      exact hs.coolDown p
    noOwner := fun hl => howner (hs.noOwner (latch ▸ hl))
    noRelay := fun hl => relay ▸ hs.noRelay (latch ▸ hl)
    fallback := fun hr => latch.trans (hs.fallback (relay ▸ hr))
    queues := fun hr => (idle hr).1
    paths := fun hr => (idle hr).2
    stopped := fun hl n => by
      rw [latch] at hl
      rw [Slot.beaconTimer_eq_none_iff]
      rcases hbeacons n with hb | hb
      · rw [hb, ← Slot.beaconTimer_eq_none_iff]
        exact hs.stopped hl n
      · intro ht
        simpa [hl] using hb _ ht
    running := fun hr n => by
      rw [relay] at hr
      rw [Slot.timer_ne_none_iff]
      rcases hbeacons n with hb | hb
      · rw [hb, ← Slot.timer_ne_none_iff]
        exact hs.running hr n
      · intro ht
        exact hs.noRelay (by simpa using (hb _ ht).symm) hr
    inReset := fun ht => by rw [resetPin, hreset] at ht; cases ht }

theorem liveOk (h : LineKept s t) (hs : LiveOk s) : LiveOk t := ⟨h.resetPin.trans hs.1, h.lineOk hs.1 hs.2⟩

theorem with_ports (h : LineKept s t) (x : PerPort PortBlock) : LineKept { s with ports := x } { t with ports := x } := by
  have resetPin := h.resetPin
  have relay := h.relay
  have latch := h.latch
  have settle := h.settle
  obtain ⟨-, rest⟩ := h
  exact ⟨by simp only [State.standing, resetPin, relay, latch, settle], rest⟩

theorem partOk (h : LineKept s t) (hs : PartOk s) : PartOk t := by
  refine ⟨fun p => ?_, (h.with_ports _).liveOk hs.2⟩
  rw [← Option.isSome_iff_ne_none, h.coolDown, h.state, Option.isSome_iff_ne_none]
  exact hs.1 p

end

end LineKept

section
variable {s : State} {p : Port}

theorem LiveOk.partOk (h : LiveOk s) : PartOk s :=
  ⟨h.2.coolDown, h.1, { h.2 with
    synced := fun _ => ⟨rfl, rfl⟩
    coolDown := fun p => by cases p <;> exact ⟨fun hn => absurd rfl hn, nofun⟩
    inReset := fun hp => by cases h.1.symm.trans hp }⟩

theorem PartOk.liveOk_of_bypass (h : PartOk s) (hr : s.relay = .bypass) : LiveOk s := by
  obtain ⟨hcool, hreset, hline⟩ := h
  exact ⟨hreset, { hline with
    synced := fun hn => absurd hr hn
    coolDown := hcool
    inReset := fun hp => by cases hreset.symm.trans hp }⟩

theorem LiveOk.relay_of_not_synced (h : LiveOk s) (hp : (s.ports.get p).state ≠ .synced) : s.relay = .bypass := by
  by_contra hr
  obtain ⟨ha, hb⟩ := h.2.synced hr
  cases p
  · exact hp ha
  · exact hp hb

/-- R22, R17: a port's block changes, its cool-down running exactly in FAULT. -/
theorem PartOk.setPort (h : PartOk s) {v : PortBlock} (hv : v.coolDown ≠ none ↔ v.state = .fault) :
    PartOk (s.setPort p v) := by
  refine ⟨fun q => ?_, h.2⟩
  simp only [State.setPort_ports, PerPort.get_set]
  split
  · exact hv
  · exact h.1 q

end

/-! ## The operations that leave the line as it stands -/

section
variable {s : State} {p : Port} {d : Dir} {n : Fin 32}

theorem PerPort.map_get_set {α β : Type} (f : α → β) (x : PerPort α) {p : Port} {a : α} (h : f a = f (x.get p)) (q : Port) :
    f ((x.set p a).get q) = f (x.get q) := by
  rw [PerPort.get_set]
  split
  · subst q; exact h
  · rfl

theorem State.setSlot_getElem (s : State) (n m : Fin 32) (v : Slot) :
    (s.setSlot n v).slots[m] = if n = m then v else s.slots[m] := by
  simp only [State.setSlot_slots, Fin.getElem_fin, Vector.getElem_set, Fin.ext_iff]

theorem lineKept_setSlot {v : Slot} (h : v.beaconRuns = s.slots[n].beaconRuns ∨ ∀ b, v.beaconRuns = some b → b = !s.latch) :
    LineKept s (s.setSlot n v) := by
  refine .of_beacons fun m => ?_
  rw [← State.setSlot_slots, State.setSlot_getElem]
  split
  · subst m; exact h
  · exact .inl rfl

theorem lineKept_mapVec {f : Slot → Slot} (h : ∀ x, (f x).beaconRuns = x.beaconRuns) :
    LineKept s { s with slots := mapVec f s.slots } :=
  .of_beacons fun m => .inl (by simp only [getElem_mapVec, h])

theorem lineKept_setPort {v : PortBlock} (hstate : v.state = (s.ports.get p).state)
    (hcool : v.coolDown.isSome = (s.ports.get p).coolDown.isSome) : LineKept s (s.setPort p v) := by
  refine ⟨?_, (LineKept.refl s).2⟩
  have port := PerPort.map_get_set (fun y => (y.state, y.coolDown.isSome)) s.ports (p := p) (a := v)
    (by simp only [hstate, hcool])
  simp only [State.standing, State.setPort_ports, port]
  rfl

theorem lineKept_setPath {w : RelayPath} (h : (s.paths.get d).store = [] ∧ (s.paths.get d).flight = none →
    w.store = [] ∧ w.flight = none) : LineKept s (s.setPath d w) := by
  refine .of_traffic fun _ hi => ⟨hi.1, fun e => ?_⟩
  rw [PerDir.get_set]
  split
  · exact h (hi.2 d)
  · exact hi.2 e

theorem lineKept_setStore {fs : List StoredFrame} (h : (s.paths.get d).store = [] → fs = []) :
    LineKept s (s.setStore d fs) :=
  lineKept_setPath fun hd => ⟨h hd.1, hd.2⟩

theorem lineKept_setQueue {q : Queue}
    (h : s.queues.get p = { entries := [], held := false } → q = { entries := [], held := false }) :
    LineKept s (s.setQueue p q) := by
  refine .of_traffic fun _ hi => ⟨fun r => ?_, hi.2⟩
  rw [PerPort.get_set]
  split
  · exact h (hi.1 p)
  · exact hi.1 r

theorem lineKept_setQueue_of_relays (hr : s.relay.relays = true) (q : Queue) : LineKept s (s.setQueue p q) := .of_relays hr

theorem lineKept_setPath_of_relays (hr : s.relay.relays = true) (w : RelayPath) : LineKept s (s.setPath d w) := .of_relays hr

theorem lineKept_place (hr : s.relay.relays = true) (b : EntryBody) : LineKept s (place p b s) := by
  rw [place_frame]
  exact .of_relays hr

theorem lineKept_withdrawFrom (t : EntryBody → Bool) (p : Port) (s : State) : LineKept s (withdrawFrom t p s) :=
  .trans (t := s.setQueue p { s.queues.get p with entries := (s.queues.get p).entries.filter (fun e => !t e.body) })
    (lineKept_setQueue fun h => by rw [h]; rfl) (.of_apart rfl)

theorem lineKept_withdraw (t : EntryBody → Bool) (s : State) : LineKept s (withdraw t s) :=
  (lineKept_withdrawFrom t .a s).trans (lineKept_withdrawFrom t .b _)

theorem lineKept_offerNotice (s : State) : LineKept s (offerNotice s) := by
  rw [offerNotice_frame]
  refine .of_traffic fun hr hi => ?_
  rw [offerNotice_of_relays hr]
  exact hi

theorem lineKept_addEvent (bit : BitVec 34) (s : State) : LineKept s (addEvent bit s) :=
  .trans (t := noted bit s) (.of_apart rfl) (lineKept_offerNotice _)

theorem lineKept_slotEvent (n : Fin 32) (s : State) : LineKept s (slotEvent n s) := by
  unfold slotEvent
  split
  · exact lineKept_addEvent _ _
  · exact .refl s

theorem beaconRuns_of_capture {x : Slot} {c : CaptureSlot} (h : x.body = .capture c) : x.beaconRuns = none := by
  simp [Slot.beaconRuns, h]

theorem beaconRuns_of_answer {x : Slot} {y : AnswerSlot} (h : x.body = .answer y) : x.beaconRuns = none := by
  simp [Slot.beaconRuns, h]

theorem beaconRuns_of_beacon {x : Slot} {y : BeaconSlot} (h : x.body = .beacon y) : x.beaconRuns = some y.timer.isSome := by
  simp [Slot.beaconRuns, h]

/-- A capture slot stays one, whatever becomes of its content. -/
theorem lineKept_setSlot_capture {c e : CaptureSlot} (h : s.slots[n].body = .capture c) {v : Slot} (hv : v.body = .capture e) :
    LineKept s (s.setSlot n v) :=
  lineKept_setSlot (.inl ((beaconRuns_of_capture hv).trans (beaconRuns_of_capture h).symm))

theorem lineKept_setSlot_answer {x y : AnswerSlot} (h : s.slots[n].body = .answer x) {v : Slot} (hv : v.body = .answer y) :
    LineKept s (s.setSlot n v) :=
  lineKept_setSlot (.inl ((beaconRuns_of_answer hv).trans (beaconRuns_of_answer h).symm))

theorem lineKept_setSlot_beacon {y : BeaconSlot} (h : s.slots[n].body = .beacon y) {v : Slot}
    (hv : v.beaconRuns = some y.timer.isSome) : LineKept s (s.setSlot n v) :=
  lineKept_setSlot (.inl (hv.trans (beaconRuns_of_beacon h).symm))

theorem lineKept_lapse (n : Fin 32) (s : State) : LineKept s (lapse n s) := by
  unfold lapse
  split
  · exact ((lineKept_setSlot_capture ‹_› rfl).trans (.of_apart rfl)).trans (lineKept_slotEvent _ _)
  · exact ((lineKept_setSlot_capture ‹_› rfl).trans (.of_apart rfl)).trans (lineKept_slotEvent _ _)
  · exact .refl s

theorem lineKept_lapseAll (s : State) : LineKept s (lapseAll s) :=
  (LineKept.foldl (fun t m => lineKept_lapse m t) s.holdList s).trans (.of_apart rfl)

theorem lineKept_captureCommit (n : Fin 32) (r : CapturedRecord) (s : State) : LineKept s (captureCommit n r s) := by
  unfold captureCommit
  split
  iterate 4 exact (lineKept_setSlot_capture ‹_› rfl).trans (lineKept_slotEvent _ _)
  exact .refl s

theorem lineKept_learnCommit (n : Fin 32) (payload : List Byte) (aux : Byte) (s : State) :
    LineKept s (learnCommit n payload aux s) := by
  unfold learnCommit
  split
  · exact ((lineKept_setSlot_answer ‹_› rfl).trans (.of_apart rfl)).trans (lineKept_slotEvent _ _)
  · exact .refl s

/-- R141, R144: the owner goes; a NOTICE is withdrawn and the holds lapse. -/
theorem lineKept_clearOwner (s : State) : LineKept s (clearOwner s) :=
  (LineKept.of_owner fun _ => rfl).trans ((lineKept_lapseAll _).trans (lineKept_withdraw _ _))

/-! ### The path of a frame -/

theorem lineKept_endCommit (p : Port) (cls : EndClass) (f : InFlight) (s : State) : LineKept s (endCommit p cls f s) := by
  unfold endCommit
  split
  · split
    · exact .refl s
    · split
      · exact lineKept_captureCommit _ _ _
      · exact .refl s
    · exact .refl s
    · split
      · exact lineKept_learnCommit _ _ _ _
      · exact .refl s
  · exact .refl s

theorem lineKept_pollEnd (p : Port) (cls : EndClass) (n : Fin 32) (g : Byte) (s : State) :
    LineKept s (pollEnd p cls n g s) := by
  unfold pollEnd
  split
  · split
    · exact lineKept_setQueue fun h => by rw [h]; rfl
    · exact (lineKept_withdrawFrom _ p s).trans (.of_apart rfl)
  · exact .refl s

theorem lineKept_endVerdict (p : Port) (cls : EndClass) (f : InFlight) (s : State) : LineKept s (endVerdict p cls f s) := by
  unfold endVerdict
  split
  · exact (lineKept_setStore fun h => by rw [h]; rfl).trans (lineKept_endCommit _ _ _ _)
  · exact lineKept_endCommit _ _ _ _
  · split
    · exact lineKept_pollEnd _ _ _ _ _
    · exact .refl s
  all_goals exact .refl s

theorem lineKept_closeFlight (p : Port) (cls : EndClass) (s : State) : LineKept s (closeFlight p cls s) := by
  unfold closeFlight
  split
  · exact .refl s
  · exact (lineKept_endVerdict _ _ _ _).trans (lineKept_setPath fun h => ⟨h.1, rfl⟩)

theorem lineKept_pathByte (p : Port) (b : Byte) (payload : Bool) (s : State) : LineKept s (pathByte p b payload s) := by
  unfold pathByte
  split
  · exact .refl s
  · rename_i f hf
    have held : LineKept s (s.setPath (dirIn p) { s.paths.get (dirIn p) with flight := some (bufferByte b payload f) }) :=
      lineKept_setPath fun h => by rw [hf] at h; cases h.2
    dsimp only
    split
    · exact held.trans (lineKept_setStore fun h => by rw [h]; rfl)
    · exact held

theorem lineKept_inboxByte (p : Port) (b : Byte) (payload : Bool) (s : State) : LineKept s (inboxByte p b payload s) := by
  unfold inboxByte
  split
  · exact .refl s
  · split
    · exact .of_apart rfl
    · exact .refl s

theorem lineKept_relayByte (p : Port) (b : Byte) (payload : Bool) (s : State) : LineKept s (relayByte p b payload s) :=
  (lineKept_pathByte p b payload s).trans (lineKept_inboxByte p b payload _)

theorem lineKept_slotMismatch (p : Port) (i : Fin 64) (s : State) : LineKept s (slotMismatch p i s).1 := .of_apart rfl

theorem lineKept_defaultDecision (p : Port) (s : State) : LineKept s (defaultDecision p s).1 := by
  unfold defaultDecision
  split
  · exact .refl s
  · exact .of_apart rfl

theorem lineKept_countConsumed (p : Port) (s : State) : LineKept s (countConsumed p s) := .of_apart rfl

theorem lineKept_openInbox (p : Port) (k : InboxKind) (h : Header) (s : State) : LineKept s (openInbox p k h s) := .of_apart rfl

theorem lineKept_mgmtDecision (p : Port) (h : Header) (s : State) : LineKept s (mgmtDecision p h s).1 := by
  unfold mgmtDecision
  split
  · exact (lineKept_openInbox _ _ _ _).trans (lineKept_countConsumed _ _)
  · split
    · exact lineKept_openInbox _ _ _ _
    · exact .refl s

section
variable (hr : s.relay.relays = true)
include hr

/-- R106: a poll's test counts, and places a reservation at most. -/
theorem lineKept_pollTest (p : Port) (h : Header) (n : Fin 32) (x : AnswerSlot) : LineKept s (pollTest p h n x s).1 := by
  unfold pollTest
  split
  · exact .of_apart rfl
  · split
    · exact .of_apart rfl
    · split
      · exact .of_apart rfl
      · split
        · exact .of_apart rfl
        · split
          · split <;> exact .of_apart rfl
          · split
            · exact (lineKept_place hr _).trans (.of_apart rfl)
            · exact .of_apart rfl

theorem lineKept_entryDecision (p : Port) (h : Header) (i : Fin 64) (e : Entry) : LineKept s (entryDecision p h i e s).1 := by
  unfold entryDecision
  split
  · exact .refl s
  · exact .of_apart rfl
  · exact lineKept_slotMismatch _ _ _
  · split
    · exact .refl s
    · exact lineKept_slotMismatch _ _ _
  · split
    · exact .of_apart rfl
    · exact lineKept_slotMismatch _ _ _
  · split
    · exact .refl s
    · exact lineKept_slotMismatch _ _ _
  · split
    · rename_i n _ _ _ x _
      have tested := lineKept_pollTest hr p h n x
      split
      all_goals
        rename_i hpoll
        rw [hpoll] at tested
        exact tested
    · exact lineKept_slotMismatch _ _ _

theorem lineKept_matchDecision (p : Port) (h : Header) : LineKept s (matchDecision p h s).1 := by
  unfold matchDecision
  split
  · exact lineKept_defaultDecision _ _
  · rename_i i _
    exact .trans (t := { s with engine := s.engine.hit i }) (.of_apart rfl) (lineKept_entryDecision (by exact hr) _ _ _ _)

theorem lineKept_decideHeader (p : Port) (h : Header) : LineKept s (decideHeader p h s).1 := by
  have matched : LineKept s (if s.relay = .relay then matchDecision p h s else (s, plainDecision .forward .none)).1 := by
    split
    · exact lineKept_matchDecision hr p h
    · exact .refl s
  unfold decideHeader
  split
  · exact lineKept_mgmtDecision _ _ _
  · exact .refl s
  · exact (lineKept_openInbox _ _ _ _).trans (lineKept_countConsumed _ _)
  · exact .of_apart rfl
  all_goals exact matched

theorem lineKept_holdHeader (p : Port) (h : Header) (t : Wide) (v : Decision) : LineKept s (holdHeader p h t v s) := by
  have held := lineKept_setPath_of_relays (d := dirIn p) hr { s.paths.get (dirIn p) with
    flight := some { header := h, sofTime := t, decision := v, buffer := [] } }
  unfold holdHeader
  dsimp only
  split
  · exact held.trans (lineKept_setPath_of_relays (held.relays hr) _)
  · exact held

end

theorem lineKept_headerReport (p : Port) (h : Header) (t : Wide) (s : State) : LineKept s (headerReport p h t s) := by
  unfold headerReport
  split
  · rename_i hr
    have decided := lineKept_decideHeader hr p h
    exact decided.trans (lineKept_holdHeader (decided.relays hr) ..)
  · unfold undecidedHeader
    split
    · exact .of_apart rfl
    · exact .refl s

theorem lineKept_cutFrame (p : Port) (s : State) : LineKept s (cutFrame p s) := by
  unfold cutFrame
  split
  · exact .refl s
  · exact (lineKept_closeFlight p .aborted s).trans (.of_apart rfl)

end

/-! ## The operations that move a port, the relay state or the latch -/

section
variable {s : State} {p : Port}

/-- R28: a part in BYPASS stands whatever it has left behind, its settle timer stopped and nothing waiting. -/
theorem PartOk.liveOk_of_left {t : State} (h : PartOk s) (hidle : Idle t) (ht : t = { s with
    relay := .bypass, settle := none, bypassPin := t.bypassPin, paths := t.paths, queues := t.queues
    dirStats := t.dirStats }) : LiveOk t := by
  obtain ⟨hcool, hreset, hline⟩ := h
  rw [ht] at hidle ⊢
  exact ⟨hreset, {
    synced := fun hr => absurd rfl hr
    released := fun hr => absurd rfl hr
    settle := ⟨fun hn => absurd rfl hn, nofun⟩
    coolDown := hcool
    noOwner := hline.noOwner
    noRelay := fun _ => nofun
    fallback := nofun
    queues := fun _ => hidle.1
    paths := fun _ => hidle.2
    stopped := hline.stopped
    running := nofun
    inReset := fun hp => by cases hreset.symm.trans hp }⟩

theorem liveOk_enterBypass (h : PartOk s) : LiveOk (enterBypass s) :=
  h.liveOk_of_left ⟨enterBypass_queues s, enterBypass_paths s⟩ (enterBypass_frame s)

theorem beaconTimer_restartSlot (x : Slot) : (restartSlot x).beaconTimer = none := by
  unfold restartSlot
  split
  · simp [Slot.beaconTimer, *]
  · rfl
  · split <;> rfl
  · rfl

theorem restartPath_idle (x : RelayPath) : (restartPath x).store = [] ∧ (restartPath x).flight = none := by
  unfold restartPath
  split <;> exact ⟨rfl, rfl⟩

theorem restartPort_coolDown (signal : Bool) :
    (restartPort signal).coolDown ≠ none ↔ (restartPort signal).state = .fault := by
  cases signal <;> exact ⟨fun hn => absurd rfl hn, nofun⟩

/-- R170: a restart leaves a part that stands. -/
theorem liveOk_restartBegin (hreset : s.resetPin = false) : LiveOk (restartBegin s) :=
  ⟨hreset, {
    synced := fun hr => absurd rfl hr
    released := fun hr => absurd rfl hr
    settle := ⟨fun hn => absurd rfl hn, nofun⟩
    coolDown := fun p => by cases p <;> exact restartPort_coolDown _
    noOwner := fun _ => rfl
    noRelay := fun _ => nofun
    fallback := nofun
    queues := fun _ p => by cases p <;> rfl
    paths := fun _ d => by cases d <;> exact restartPath_idle _
    stopped := fun _ n => by
      simp only [restartBegin, getElem_mapVec]
      exact beaconTimer_restartSlot _
    running := nofun
    inReset := fun hp => by cases hreset.symm.trans hp }⟩

theorem liveOk_settleRestart (h : LiveOk s) : LiveOk (settleRestart s) := by
  rcases settleRestart_cases s with ⟨-, hs⟩ | ⟨-, hs⟩
  · rw [hs]; exact h
  · rw [hs]; exact liveOk_restartBegin h.1

theorem liveOk_outOfLine (h : PartOk s) : LiveOk (outOfLine s) := by
  by_cases hr : s.relay = .bypass
  · rw [outOfLine_of_bypass hr]; exact h.liveOk_of_bypass hr
  · rw [outOfLine_of_ne_bypass hr]; exact liveOk_enterBypass h

theorem leaveSynced_eq (ps : List Port) (s : State) :
    leaveSynced ps s = outOfLine (ps.foldl (fun t p => cutFrame p t) s) := rfl

theorem liveOk_leaveSynced (ps : List Port) (h : PartOk s) : LiveOk (leaveSynced ps s) :=
  leaveSynced_eq ps s ▸ liveOk_outOfLine ((LineKept.foldl (fun t p => lineKept_cutFrame p t) ps s).partOk h)

theorem partOk_setFault (p : Port) (h : PartOk s) : PartOk (setFault p s) :=
  LineKept.partOk (s := s.setPort p faultedPort) (.of_apart rfl) (h.setPort ⟨fun _ => rfl, fun _ => nofun⟩)

theorem liveOk_enterFault (ps : List Port) (h : PartOk s) : LiveOk (enterFault ps s) := by
  have faulted : PartOk (ps.foldl (fun t p => setFault p t) s) := by
    induction ps generalizing s with
    | nil => exact h
    | cons p ps ih => exact ih (partOk_setFault p h)
  exact (LineKept.foldl (fun t p => lineKept_addEvent (portBit p) t) ps _).liveOk (liveOk_leaveSynced ps faulted)

theorem liveOk_bucketAdd (p : Port) (n : Nat) (h : LiveOk s) : LiveOk (bucketAdd p n s) := by
  unfold bucketAdd
  split
  · exact h
  · split
    · exact liveOk_enterFault [p] h.partOk
    · refine (lineKept_setPort ?_ ?_).liveOk h
      · rfl
      · rfl

theorem liveOk_compareLimits (h : LiveOk s) : LiveOk (compareLimits s) := by
  unfold compareLimits
  split
  · exact h
  · exact liveOk_enterFault _ h.partOk

/-- R26: JOINING begins with both ports SYNCED and nothing waiting. -/
theorem liveOk_joinCheck (h : LiveOk s) : LiveOk (joinCheck s) := by
  rcases joinCheck_cases s with ⟨-, hs⟩ | ⟨hready, hs⟩
  · rw [hs]; exact h
  · rw [hs]
    simp only [joinReady, Bool.and_eq_true, decide_eq_true_eq] at hready
    obtain ⟨⟨⟨⟨hr, ha⟩, hb⟩, -⟩, -⟩ := hready
    have hwaits : s.relay.relays = false := by rw [hr]; rfl
    exact ⟨h.1, { h.2 with
      synced := fun _ => ⟨ha, hb⟩
      released := fun _ => rfl
      settle := ⟨fun _ => rfl, fun _ => nofun⟩
      noRelay := fun _ => nofun
      fallback := nofun
      queues := fun _ => h.2.queues hwaits
      paths := fun _ => h.2.paths hwaits
      running := nofun
      inReset := fun hp => by cases h.1.symm.trans hp }⟩

/-- A port that is not SYNCED takes a new block in BYPASS. -/
theorem liveOk_setPort_of_not_synced (h : LiveOk s) (hp : (s.ports.get p).state ≠ .synced) {v : PortBlock}
    (hv : v.coolDown ≠ none ↔ v.state = .fault) : LiveOk (s.setPort p v) :=
  (h.partOk.setPort hv).liveOk_of_bypass (h.relay_of_not_synced hp)

theorem LiveOk.coolDown_of_ne_fault (h : LiveOk s) (hp : (s.ports.get p).state ≠ .fault) :
    (s.ports.get p).coolDown = none := not_not.mp (mt (h.2.coolDown p).mp hp)

theorem liveOk_startSync (h : LiveOk s) (hp : (s.ports.get p).state = .down) : LiveOk (startSync p s) := by
  have stopped := h.coolDown_of_ne_fault (p := p) (by rw [hp]; nofun)
  refine (lineKept_addEvent _ _).liveOk (liveOk_setPort_of_not_synced h (by rw [hp]; nofun) ?_)
  exact ⟨fun hn => absurd stopped hn, nofun⟩

theorem liveOk_portSynced (h : LiveOk s) (hp : (s.ports.get p).state = .syncing) : LiveOk (portSynced p s) := by
  have stopped := h.coolDown_of_ne_fault (p := p) (by rw [hp]; nofun)
  refine (lineKept_addEvent _ _).liveOk (liveOk_joinCheck ?_)
  refine (LineKept.of_apart rfl).liveOk (s := s.setPort p _) (liveOk_setPort_of_not_synced h (by rw [hp]; nofun) ?_)
  exact ⟨fun hn => absurd stopped hn, nofun⟩

theorem liveOk_coolDownEnd (h : LiveOk s) (hp : (s.ports.get p).coolDown ≠ none) : LiveOk (coolDownEnd p s) := by
  have hfault := (h.2.coolDown p).mp hp
  refine (lineKept_addEvent _ _).liveOk (liveOk_setPort_of_not_synced h (by rw [hfault]; nofun) ?_)
  cases s.signal.get p <;> exact ⟨fun hn => absurd rfl hn, nofun⟩

theorem liveOk_loseSignal (h : LiveOk s) : LiveOk (loseSignal p s) := by
  refine (lineKept_addEvent _ _).liveOk ?_
  have down : PartOk (s.setPort p { s.ports.get p with state := .down, syncIdle := 0, coolDown := none }) :=
    h.partOk.setPort ⟨fun hn => absurd rfl hn, nofun⟩
  split
  · exact liveOk_leaveSynced [p] down
  · exact down.liveOk_of_bypass (h.relay_of_not_synced ‹_›)

theorem beaconRuns_startBeacon (x : Slot) : (startBeacon x).beaconRuns ≠ some false := by
  unfold startBeacon
  split
  · simp [Slot.beaconRuns]
  · simp_all [Slot.beaconRuns]

theorem beaconRuns_startStoppedBeacon (x : Slot) : (startStoppedBeacon x).beaconRuns ≠ some false := by
  unfold startStoppedBeacon
  split
  · split
    · exact beaconRuns_startBeacon x
    · simp_all [Slot.beaconRuns]
  · simp_all [Slot.beaconRuns]

theorem beaconTimer_stopBeacon (x : Slot) : (stopBeacon x).beaconTimer = none := by
  unfold stopBeacon
  split
  · rfl
  · simp_all [Slot.beaconTimer]

/-- R27, R30: the line opens in the relay state the latch calls for. -/
theorem liveOk_settleExpiry (h : LiveOk s) (hr : s.relay = .joining) : LiveOk (settleExpiry s) := by
  have hne : s.relay ≠ .bypass := by rw [hr]; nofun
  unfold settleExpiry
  split
  · rename_i hl
    exact (lineKept_offerNotice _).liveOk ⟨h.1, { h.2 with
      synced := fun _ => h.2.synced hne
      released := fun _ => h.2.released hne
      settle := ⟨fun hn => absurd rfl hn, nofun⟩
      noRelay := fun _ => nofun
      fallback := fun _ => hl
      queues := nofun
      paths := nofun
      running := nofun
      inReset := fun hp => by cases h.1.symm.trans hp }⟩
  · rename_i hl
    exact (lineKept_offerNotice _).liveOk ⟨h.1, { h.2 with
      synced := fun _ => h.2.synced hne
      released := fun _ => h.2.released hne
      settle := ⟨fun hn => absurd rfl hn, nofun⟩
      noRelay := fun ht => absurd ht hl
      fallback := nofun
      queues := nofun
      paths := nofun
      stopped := fun ht => absurd ht hl
      running := fun _ n => by
        rw [Slot.timer_ne_none_iff, getElem_mapVec]
        exact beaconRuns_startStoppedBeacon _
      inReset := fun hp => by cases h.1.symm.trans hp }⟩

/-- R29, R30: the latch is set in a part without an owner. -/
theorem liveOk_setLatch (h : LiveOk s) (ho : s.owner = none) : LiveOk (setLatch s) := by
  have stopped (n : Fin 32) : (mapVec stopBeacon s.slots)[n].beaconTimer = none := by
    rw [getElem_mapVec]
    exact beaconTimer_stopBeacon _
  unfold setLatch
  split
  · rename_i hr
    have hne : s.relay ≠ .bypass := by rw [hr]; nofun
    have hsettle : s.settle = none := not_not.mp (mt h.2.settle.mp (by rw [hr]; nofun))
    refine (lineKept_offerNotice _).liveOk ?_
    rw [withdraw_frame]
    exact ⟨h.1, { h.2 with
      synced := fun _ => h.2.synced hne
      released := fun _ => h.2.released hne
      settle := ⟨fun hn => absurd hsettle hn, nofun⟩
      noOwner := fun _ => ho
      noRelay := fun _ => nofun
      fallback := fun _ => rfl
      queues := nofun
      paths := nofun
      stopped := fun _ => stopped
      running := nofun
      inReset := fun hp => by cases h.1.symm.trans hp }⟩
  · rename_i hr
    exact ⟨h.1, { h.2 with
      noOwner := fun _ => ho
      noRelay := fun _ => hr
      fallback := fun _ => rfl
      stopped := fun _ => stopped
      running := fun ht => absurd ht hr }⟩

theorem liveOk_expireLease (o : Owner) (h : LiveOk s) : LiveOk (expireLease o s) := by
  have cleared := (lineKept_clearOwner s).liveOk h
  unfold expireLease
  split
  · exact cleared
  · exact liveOk_setLatch cleared (by rw [clearOwner_frame])

/-- R31: FALLBACK gives way to RELAY, and the other relay states stand. -/
theorem clearLatch_relay (s : State) :
    ((clearLatch s).relay = .bypass ↔ s.relay = .bypass) ∧ ((clearLatch s).relay = .joining ↔ s.relay = .joining)
    ∧ (clearLatch s).relay ≠ .fallback ∧ (clearLatch s).relay.relays = s.relay.relays := by
  simp only [clearLatch]
  cases s.relay <;> decide

/-- R31: with the latch cleared every beacon timer runs in RELAY. -/
theorem clearLatch_running (h : LiveOk s) (hr : (clearLatch s).relay = .relay) (n : Fin 32) :
    (clearLatch s).slots[n].beaconRuns ≠ some false := by
  by_cases hl : s.latch = true
  · simp only [clearLatch, hl, if_true, getElem_mapVec]
    exact beaconRuns_startBeacon _
  · have hf : s.relay ≠ .fallback := mt h.2.fallback hl
    simp only [clearLatch, if_neg hl, if_neg hf] at hr ⊢
    exact (Slot.timer_ne_none_iff _).mp (h.2.running hr n)

/-- R142, R31: a grant names the owner and clears the latch. -/
theorem liveOk_grant (e : Envelope) (lease : Half) (policy : Policy) (h : LiveOk s) : LiveOk (grant e lease policy s) := by
  obtain ⟨bypass, joining, not_fallback, relays⟩ := clearLatch_relay s
  exact ⟨h.1, {
    synced := fun hr => h.2.synced (mt bypass.mpr hr)
    released := fun hr => h.2.released (mt bypass.mpr hr)
    settle := h.2.settle.trans joining.symm
    coolDown := h.2.coolDown
    noOwner := nofun
    noRelay := nofun
    fallback := fun hr => absurd hr not_fallback
    queues := fun hr => h.2.queues (relays.symm.trans hr)
    paths := fun hr => h.2.paths (relays.symm.trans hr)
    stopped := nofun
    running := fun hr n => (Slot.timer_ne_none_iff _).mpr (clearLatch_running h hr n)
    inReset := fun hp => by cases h.1.symm.trans hp }⟩

theorem grant_relays (e : Envelope) (lease : Half) (policy : Policy) (hr : s.relay.relays = true) :
    (grant e lease policy s).relay.relays = true := by
  simp only [grant, clearLatch]
  split
  · rfl
  · exact hr

end

/-! ## Requests -/

/-- A request that leaves the line standing, and frames relayed until its reply is placed. -/
def Handler.LineSafe (f : Handler) : Prop :=
  (∀ e s, s.relay.relays = true → LiveOk s → LiveOk (f.run e s).1 ∧ (f.run e s).1.relay.relays = true)
  ∧ ∀ a s, LiveOk s → LiveOk (f.after a s)

section
variable {s : State}

theorem Handler.LineSafe.of_kept {f : Handler} (hrun : ∀ e s, s.relay.relays = true → LineKept s (f.run e s).1)
    (hafter : ∀ a s, LiveOk s → LiveOk (f.after a s)) : f.LineSafe :=
  ⟨fun e s hr h => ⟨(hrun e s hr).liveOk h, (hrun e s hr).relays hr⟩, hafter⟩

theorem liveOk_noAfter (a : Answer) (s : State) (h : LiveOk s) : LiveOk (noAfter a s) := h

/-- A request that is answered and no more. -/
theorem Handler.LineSafe.of_read {f : Handler} (hrun : ∀ e s, (f.run e s).1 = s) (hafter : f.after = noAfter) : f.LineSafe :=
  of_kept (fun e s _ => .of_eq (hrun e s)) (hafter ▸ liveOk_noAfter)

theorem lineSafe_ident (ps : List Byte) : (identHandler ps).LineSafe := .of_read (fun _ _ => rfl) rfl

theorem liveOk_runClaim (lease : Half) (policy : Byte) (e : Envelope) (hr : s.relay.relays = true) (h : LiveOk s) :
    LiveOk (runClaim lease policy e s).1 ∧ (runClaim lease policy e s).1.relay.relays = true := by
  have granted (k : Policy) := And.intro (liveOk_grant e lease k h) (grant_relays e lease k hr)
  unfold runClaim
  split
  · exact ⟨h, hr⟩
  · split
    · exact ⟨h, hr⟩
    · split
      · split
        · exact granted _
        · exact ⟨h, hr⟩
      · exact granted _

theorem lineSafe_claim (ps : List Byte) : (claimHandler ps).LineSafe := by
  refine ⟨fun e s hr h => liveOk_runClaim _ _ e hr h, fun a s h => ?_⟩
  dsimp only [claimHandler]
  split
  · exact (lineKept_offerNotice s).liveOk h
  · exact h

theorem lineSafe_renounce (ps : List Byte) : (renounceHandler ps).LineSafe :=
  .of_kept (fun _ s _ => lineKept_clearOwner s) liveOk_noAfter

theorem lineSafe_settingsRead (ps : List Byte) : (settingsReadHandler ps).LineSafe := .of_read (fun _ _ => rfl) rfl

theorem lineSafe_settingsWrite (ps : List Byte) : (settingsWriteHandler ps).LineSafe := by
  refine .of_kept (fun e s _ => ?_) (fun a s h => ?_)
  · dsimp only [settingsWriteHandler, runSettingsWrite]
    split
    · exact .of_apart rfl
    · exact .refl s
  · dsimp only [settingsWriteHandler]
    split
    · exact liveOk_compareLimits h
    · exact h

theorem lineSafe_entryRead (ps : List Byte) : (entryReadHandler ps).LineSafe := by
  refine .of_read (fun e s => ?_) rfl
  dsimp only [entryReadHandler, runEntryRead]
  split
  · rfl
  · split
    · rfl
    · split
      · split <;> rfl
      · rfl

theorem lineSafe_entryWrite (ps : List Byte) : (entryWriteHandler ps).LineSafe := by
  refine .of_kept (fun e s _ => ?_) liveOk_noAfter
  dsimp only [entryWriteHandler, runEntryWrite]
  split
  · exact .refl s
  · split
    · exact .refl s
    · split
      · exact .refl s
      · split
        · exact .refl s
        · exact .of_apart rfl

theorem lineSafe_entryClear (ps : List Byte) : (entryClearHandler ps).LineSafe := by
  refine .of_kept (fun e s _ => ?_) liveOk_noAfter
  dsimp only [entryClearHandler, runEntryClear]
  split
  · exact .refl s
  · split
    · exact .of_apart rfl
    · split
      · exact .refl s
      · exact .of_apart rfl

theorem lineSafe_bankCopy (ps : List Byte) : (bankCopyHandler ps).LineSafe := by
  refine .of_kept (fun e s hr => ?_) liveOk_noAfter
  dsimp only [bankCopyHandler, runBankCopy]
  split
  · exact .refl s
  · exact (lineKept_setQueue_of_relays hr _).trans (.of_apart rfl)

theorem lineSafe_bankSwap (ps : List Byte) : (bankSwapHandler ps).LineSafe := by
  refine .of_kept (fun e s _ => ?_) liveOk_noAfter
  dsimp only [bankSwapHandler, runBankSwap]
  split
  · exact .refl s
  · split
    · exact .refl s
    · split
      · exact .refl s
      · exact .of_apart rfl

/-- R130: a beacon set up runs unless the latch is set. -/
theorem setupBody_beacon {latch : Bool} {ps : List Byte} {y : BeaconSlot} (h : setupBody latch ps = some (.beacon y)) :
    y.timer.isSome = !latch := by
  unfold setupBody at h
  split at h
  · cases h
  · split at h
    · cases h
    · split at h
      · cases h
      · split at h
        · split at h
          · cases h
          · split at h
            · cases h
            · cases h
              cases latch <;> rfl
        · cases h

theorem lineKept_setupSlot (n : Fin 32) (notify : Bool) {ps : List Byte} {body : SlotBody}
    (h : setupBody s.latch ps = some body) : LineKept s (setupSlot n notify body s) := by
  refine .trans (.trans (lineKept_setSlot (.inr fun b hb => ?_)) (.of_apart rfl)) (lineKept_withdraw _ _)
  cases body with
  | beacon y =>
    rw [beaconRuns_of_beacon rfl, setupBody_beacon h] at hb
    exact (Option.some.inj hb).symm
  | _ => cases hb

theorem lineSafe_slotSetup (ps : List Byte) : (slotSetupHandler ps).LineSafe := by
  refine .of_kept (fun e s _ => ?_) liveOk_noAfter
  dsimp only [slotSetupHandler, runSlotSetup]
  split
  · exact .refl s
  · split
    · exact .refl s
    · split
      · exact .refl s
      · exact lineKept_setupSlot _ _ ‹_›

theorem lineSafe_slotLoad (ps : List Byte) : (slotLoadHandler ps).LineSafe := by
  refine .of_kept (fun e s _ => ?_) liveOk_noAfter
  dsimp only [slotLoadHandler, runSlotLoad]
  split
  · exact .refl s
  · split
    · exact .refl s
    · split
      · exact .refl s
      · exact .refl s
      · exact lineKept_setSlot_answer ‹_› rfl
      · rename_i x hx
        exact lineKept_setSlot_beacon hx rfl

theorem lineSafe_slotReadPlain (slot : Byte) : (slotReadPlainHandler slot).LineSafe := by
  refine .of_read (fun e s => ?_) rfl
  dsimp only [slotReadPlainHandler, runReadPlain]
  split <;> rfl

theorem lineSafe_slotReadHold (slot : Byte) : (slotReadHoldHandler slot).LineSafe := by
  refine .of_kept (fun e s _ => ?_) liveOk_noAfter
  dsimp only [slotReadHoldHandler, runReadHold]
  split
  · exact .refl s
  · split
    · exact .refl s
    · exact lineKept_setSlot_capture ‹_› rfl
    · split
      · exact .refl s
      · exact (lineKept_setSlot_capture ‹_› rfl).trans (.of_apart rfl)
    · exact .refl s

theorem lineSafe_slotRelease (ps : List Byte) : (slotReleaseHandler ps).LineSafe := by
  refine .of_kept (fun e s _ => ?_) liveOk_noAfter
  dsimp only [slotReleaseHandler, runSlotRelease]
  split
  · exact .refl s
  · split
    · exact (lineKept_setSlot_capture ‹_› rfl).trans (.of_apart rfl)
    · exact .refl s
    · exact .refl s

theorem lineSafe_noticeAck (ps : List Byte) : (noticeAckHandler ps).LineSafe := by
  refine .of_kept (fun e s _ => ?_) liveOk_noAfter
  dsimp only [noticeAckHandler, runNoticeAck]
  split
  · exact .of_apart rfl
  · exact .refl s

theorem beaconRuns_clearCounts (lo hi : Nat) (v : Vector Slot 32) (m : Fin 32) :
    (clearCounts lo hi v)[m].beaconRuns = v[m].beaconRuns := by
  unfold clearCounts
  induction allSlots generalizing v with
  | nil => rfl
  | cons n l ih =>
    refine (ih _).trans ?_
    dsimp only
    split
    · simp only [Fin.getElem_fin, Vector.getElem_set]
      split
      · rename_i hn
        simp only [← hn]
        rfl
      · rfl
    · rfl

theorem lineKept_clearCounts (lo hi : Nat) (s : State) : LineKept s { s with slots := clearCounts lo hi s.slots } :=
  .of_beacons fun m => .inl (beaconRuns_clearCounts lo hi s.slots m)

theorem lineKept_clearGroup (g : Group) (s : State) : LineKept s (clearGroup g s) := by
  cases g with
  | portA | portB | proxy | agent => exact .of_apart rfl
  | dirAB => exact .trans (t := s.setPath .ab { s.paths.ab with highWater := 0 }) (lineKept_setPath fun h => h) (.of_apart rfl)
  | dirBA => exact .trans (t := s.setPath .ba { s.paths.ba with highWater := 0 }) (lineKept_setPath fun h => h) (.of_apart rfl)
  | slots0 | slots1 => exact lineKept_clearCounts _ _ s

theorem lineKept_runStats (clear : Bool) (group : Byte) (s : State) : LineKept s (runStats clear group s).1 := by
  unfold runStats
  split
  · exact .refl s
  · dsimp only
    split
    · exact lineKept_clearGroup _ s
    · exact .refl s

theorem lineSafe_statsPlain (group : Byte) : (statsPlainHandler group).LineSafe :=
  .of_kept (fun _ s _ => lineKept_runStats false group s) liveOk_noAfter

theorem lineSafe_statsClear (group : Byte) : (statsClearHandler group).LineSafe :=
  .of_kept (fun _ s _ => lineKept_runStats true group s) liveOk_noAfter

theorem lineSafe_restart (ps : List Byte) : (restartHandler ps).LineSafe :=
  .of_kept (fun _ _ _ => .of_apart rfl) liveOk_noAfter

theorem lineSafe_refused (st : Status) : (refusedHandler st).LineSafe := .of_read (fun _ _ => rfl) rfl

theorem lineSafe_select {f g : Byte → Handler} (hf : ∀ x, (f x).LineSafe) (hg : ∀ x, (g x).LineSafe) (ps : List Byte) :
    (selectHandler f g ps).LineSafe := by
  unfold selectHandler
  split
  · split
    · exact hf _
    · split
      · exact hg _
      · exact lineSafe_refused _
  · exact lineSafe_refused _

theorem Handler.LineSafe.ite {c : Prop} [Decidable c] {f g : Handler} (hf : f.LineSafe) (hg : g.LineSafe) :
    (if c then f else g).LineSafe := by
  split
  · exact hf
  · exact hg

/-- Whatever a request's payload says, the request it stands for leaves the line standing. -/
theorem lineSafe_handlerOf (code : Byte) (ps : List Byte) : (handlerOf code ps).LineSafe :=
  .ite (lineSafe_ident ps) <|
  .ite (lineSafe_claim ps) <|
  .ite (lineSafe_renounce ps) <|
  .ite (lineSafe_settingsRead ps) <|
  .ite (lineSafe_settingsWrite ps) <|
  .ite (lineSafe_entryRead ps) <|
  .ite (lineSafe_entryWrite ps) <|
  .ite (lineSafe_entryClear ps) <|
  .ite (lineSafe_bankCopy ps) <|
  .ite (lineSafe_bankSwap ps) <|
  .ite (lineSafe_slotSetup ps) <|
  .ite (lineSafe_slotLoad ps) <|
  .ite (lineSafe_select lineSafe_slotReadPlain lineSafe_slotReadHold ps) <|
  .ite (lineSafe_slotRelease ps) <|
  .ite (lineSafe_noticeAck ps) <|
  .ite (lineSafe_select lineSafe_statsPlain lineSafe_statsClear ps) <|
  .ite (lineSafe_restart ps) <|
  lineSafe_refused _

end

/-! ## The agent -/

section
variable {s : State} {e : Envelope}

theorem lineKept_placeReply (hr : s.relay.relays = true) (payload : List Byte) (named : Bool) :
    LineKept s (placeReply e payload named s) := lineKept_place hr _

theorem lineKept_recordRequest (reply : Option (List Byte)) (s : State) : LineKept s (recordRequest e reply s) := by
  unfold recordRequest
  split
  · exact .refl s
  · exact .of_apart rfl

theorem lineKept_countAnswer (st : Status) (s : State) : LineKept s (countAnswer st s) := by
  unfold countAnswer
  split <;> exact .of_apart rfl

theorem lineKept_countNoRoom (s : State) : LineKept s (countNoRoom s) := .of_apart rfl

theorem lineKept_finishRequest (hr : s.relay.relays = true) (code : Byte) (a : Answer) :
    LineKept s (finishRequest e code a s) := by
  cases a with
  | reply => exact ((lineKept_placeReply hr _ _).trans (lineKept_recordRequest _ _)).trans (lineKept_countAnswer _ _)
  | copyStarted => exact (lineKept_recordRequest _ s).trans (lineKept_countAnswer _ _)

theorem lineKept_duplicate (hr : s.relay.relays = true) (x : CacheEntry) : LineKept s (duplicate e x s) := by
  have counted : LineKept s { s.bumpAgent (fun c => { c with duplicates := satInc c.duplicates }) with
    cache := refreshCache x s.cache } := .of_apart rfl
  unfold duplicate
  dsimp only
  split
  · exact counted
  · split
    · exact counted.trans (lineKept_placeReply (counted.relays hr) _ _)
    · exact counted.trans (lineKept_countNoRoom _)

/-- R137: a request is refused before it is run, or run. -/
theorem runRequest_cases (f : Handler) (e : Envelope) (s : State) :
    (runRequest f e s).1 = s ∨ runRequest f e s = f.run e s := by
  unfold runRequest
  split
  · exact .inl rfl
  · split
    · exact .inl rfl
    · exact .inr rfl

theorem liveOk_examine {f : Handler} (hf : f.LineSafe) (code : Byte) (hr : s.relay.relays = true) (h : LiveOk s) :
    LiveOk (examine f code e s) := by
  unfold examine
  split
  · exact (lineKept_duplicate hr _).liveOk h
  · split
    · have ran : LiveOk (runRequest f e s).1 ∧ (runRequest f e s).1.relay.relays = true := by
        rcases runRequest_cases f e s with hs | hs
        · rw [hs]; exact ⟨h, hr⟩
        · rw [hs]; exact hf.1 e s hr h
      exact hf.2 _ _ ((lineKept_finishRequest ran.2 code _).liveOk ran.1)
    · exact (lineKept_countNoRoom s).liveOk h

theorem liveOk_agentRequest {f : Handler} (hf : f.LineSafe) (code : Byte) (h : LiveOk s) :
    LiveOk (agentRequest f code e s) := by
  unfold agentRequest
  split
  · exact h
  · split
    · exact (LineKept.of_apart rfl).liveOk h
    · split
      · exact (LineKept.of_apart rfl).liveOk h
      · rename_i hr _
        exact liveOk_examine hf code (by simpa using hr) h

theorem lineKept_offerAssign (hr : s.relay.relays = true) (p : Port) (b : Byte) : LineKept s (offerAssign p b s) := by
  unfold offerAssign
  split
  · exact lineKept_setQueue_of_relays hr _
  · split
    · exact lineKept_place hr _
    · exact lineKept_countNoRoom s

theorem lineKept_assignEnd (p : Port) (n : Byte) (s : State) : LineKept s (assignEnd p n s) := by
  unfold assignEnd
  split
  · rename_i hr
    have named : LineKept s { s with ownAddr := n } := .of_apart rfl
    split
    · exact lineKept_offerAssign hr _ _
    · exact named.trans (lineKept_offerAssign (named.relays hr) _ _)
  · exact .of_apart rfl

theorem liveOk_agentEnd (p : Port) (cls : EndClass) (h : LiveOk s) : LiveOk (agentEnd p cls s) := by
  have discarded : LiveOk (s.setInbox p none) := (LineKept.of_apart rfl).liveOk h
  unfold agentEnd
  split
  · exact h
  · split
    · split
      · exact liveOk_agentRequest (lineSafe_handlerOf _ _) _ discarded
      · exact (lineKept_assignEnd _ _ _).liveOk discarded
      · exact discarded
    · exact discarded

/-! ## The receivers -/

theorem liveOk_frameEnd (p : Port) (cls : EndClass) (x : LineEvent) (h : LiveOk s) : LiveOk (frameEnd p cls x s) := by
  have counted : LineKept s (countEnd p cls (s.setRx p (rxAfterEnd s.timestamp x (s.rx.get p)))) := by
    rw [countEnd_eq]
    exact .of_apart rfl
  have closed := (counted.trans (lineKept_closeFlight p cls _)).liveOk h
  exact liveOk_joinCheck (liveOk_bucketAdd _ _ (liveOk_agentEnd p cls closed))

theorem lineKept_setRx (p : Port) (r : Receiver) (s : State) : LineKept s (s.setRx p r) := .of_apart rfl

theorem lineKept_lengthAtHeader (p : Port) (s : State) : LineKept s (lengthAtHeader p s) := by
  unfold lengthAtHeader
  split
  · exact .of_apart rfl
  · exact .refl s

theorem liveOk_headerByte (p : Port) (b : Byte) (h : LiveOk s) : LiveOk (headerByte p b s) := by
  have received (r : Receiver) := lineKept_setRx p r s
  unfold headerByte
  dsimp only
  split
  · exact (received _).liveOk h
  · split
    · split
      · exact (received _).liveOk h
      · exact ((received _).trans (lineKept_headerReport _ _ _ _)).liveOk h
    · split
      · exact liveOk_frameEnd _ _ _ ((received _).liveOk h)
      · exact liveOk_frameEnd _ _ _ (((received _).trans (lineKept_lengthAtHeader p _)).liveOk h)

theorem liveOk_bodyByte (p : Port) (b : Byte) (h : LiveOk s) : LiveOk (bodyByte p b s) := by
  have received (r : Receiver) := lineKept_setRx p r s
  unfold bodyByte
  dsimp only
  split
  · split
    · exact (received _).liveOk h
    · exact ((received _).trans (lineKept_relayByte _ _ _ _)).liveOk h
  · exact liveOk_frameEnd _ _ _ h

theorem liveOk_delimit (p : Port) (x : LineEvent) (h : LiveOk s) : LiveOk (delimit p x s) := by
  unfold delimit
  dsimp only
  split
  · exact (lineKept_setRx p _ s).liveOk h
  · exact liveOk_bucketAdd _ _ ((lineKept_setRx p _ s).liveOk h)
  · exact liveOk_headerByte _ _ h
  · exact liveOk_frameEnd _ _ _ h
  · exact liveOk_bodyByte _ _ h
  · exact liveOk_frameEnd _ _ _ h
  · exact liveOk_frameEnd _ _ _ h

theorem lineKept_countCodeError (p : Port) (x : LineEvent) (s : State) : LineKept s (countCodeError p x s) := by
  rw [countCodeError_eq]
  exact .of_apart rfl

theorem liveOk_synchronise {p : Port} (x : LineEvent) (h : LiveOk s) (hp : (s.ports.get p).state = .syncing) :
    LiveOk (synchronise p x s) := by
  have counts (n : Nat) : LineKept s (s.setPort p { s.ports.get p with syncIdle := n }) := lineKept_setPort rfl rfl
  unfold synchronise
  split
  · split
    · exact liveOk_portSynced h hp
    · exact (counts _).liveOk h
  · exact (counts _).liveOk h

theorem liveOk_receive (p : Port) (x : LineEvent) (h : LiveOk s) : LiveOk (receive p x s) := by
  have counted := lineKept_countCodeError p x s
  unfold receive
  split
  · exact h
  · rename_i hp
    exact liveOk_synchronise x (counted.liveOk h) ((counted.state p).trans hp)
  · exact liveOk_delimit p x (counted.liveOk h)
  · exact counted.liveOk h

/-! ## The outputs -/

theorem lineKept_startThrough (p : Port) (s : State) : LineKept s (startThrough p s) := lineKept_setPath fun h => h

theorem lineKept_startInjection (p : Port) (bytes : List Byte) (named : Bool) (s : State) :
    LineKept s (startInjection p bytes named s) := lineKept_setPath fun h => h

theorem lineKept_startEntry (p : Port) (b : EntryBody) (s : State) : LineKept s (startEntry p b s) := by
  cases b with
  | answer | mreply | assign => exact lineKept_startInjection _ _ _ s
  | notice =>
    simp only [startEntry, moveNotice]
    refine .trans ?_ (lineKept_startInjection _ _ _ _)
    exact .of_apart rfl
  | beacon n =>
    simp only [startEntry, moveBeacon]
    split
    · rename_i y hy
      exact .trans (lineKept_setSlot_beacon hy rfl) (lineKept_startInjection _ _ _ _)
    · exact lineKept_startInjection _ _ _ s

theorem lineKept_moveOut {p : Port} (hr : s.relay.relays = true) (x : QEntry) (rest : List QEntry) :
    LineKept s (moveOut p x rest s) := by
  unfold moveOut
  rw [countInjected_frame]
  exact ((lineKept_setQueue_of_relays hr _).trans (lineKept_startEntry p _ _)).trans (.of_apart rfl)

theorem relays_of_canInject {p : Port} (h : canInject p s = true) : s.relay.relays = true := by
  simp only [canInject, mayStart, Bool.and_eq_true] at h
  exact h.1.1.1

theorem lineKept_moveOutFrom (x : Source) (p : Port) (s : State) : LineKept s (moveOutFrom x p s) := by
  unfold moveOutFrom
  split
  · rename_i h
    have hr := relays_of_canInject (Bool.and_eq_true_iff.mp h).1
    split
    · split
      · exact lineKept_moveOut hr _ _
      · exact .refl s
    · exact .refl s
  · exact .refl s

theorem lineKept_arbitrate (p : Port) (s : State) : LineKept s (arbitrate p s) := by
  unfold arbitrate
  split
  · exact lineKept_startThrough p s
  · split
    · rename_i h
      split
      · exact lineKept_moveOut (relays_of_canInject h) _ _
      · exact .refl s
    · exact .refl s

theorem lineKept_sendSymbol (p : Port) (x : Symbol) (tx : Tx) (s : State) : LineKept s (sendSymbol p x tx s) :=
  lineKept_setPath fun h => h

/-- R41: a place leaves the detour store only where there is one. -/
theorem lineKept_sendPlace (p : Port) (s : State) : LineKept s (sendPlace p s) := by
  have sent {x : Symbol} {tx : Tx} {fs : List StoredFrame} (h : (s.paths.get (dirOut p)).store ≠ []) :
      LineKept s ((sendSymbol p x tx s).setStore (dirOut p) fs) :=
    (lineKept_sendSymbol p x tx s).trans
      (lineKept_setStore fun he => absurd (by simpa only [sendSymbol, State.setPath_paths, PerDir.get_set_self] using he) h)
  unfold sendPlace
  split
  · rename_i h
    exact sent (by rw [h]; nofun)
  · rename_i m _ h
    unfold sendMark
    split <;> exact (sent (by rw [h]; nofun)).trans (.of_apart rfl)
  · exact .refl s
  · exact .refl s

theorem lineKept_sendNext (p : Port) (s : State) : LineKept s (sendNext p s) := by
  unfold sendNext
  split
  case h_3 => exact lineKept_sendPlace p s
  all_goals exact lineKept_sendSymbol _ _ _ s

theorem lineKept_sendInBypass {p : Port} (hr : s.relay = .bypass) : LineKept s (sendInBypass p s) := by
  have pin {t : State} (ht : LineKept s t) (b : Bool) : LineKept s { t with bypassPin := b } :=
    ht.trans ⟨rfl, fun hn => absurd (ht.relay.trans hr) hn, fun ho => ho, fun _ => .inl rfl, fun _ hi => hi⟩
  unfold sendInBypass
  refine pin ?_ _
  split
  · exact lineKept_sendSymbol _ _ _ s
  · exact lineKept_setPath fun h => h

theorem lineKept_transmit (p : Port) (s : State) : LineKept s (transmit p s) := by
  unfold transmit
  split
  · exact lineKept_sendInBypass ‹_›
  · exact lineKept_sendNext p s
  · exact (lineKept_arbitrate p s).trans (lineKept_sendNext p _)
  · exact (lineKept_arbitrate p s).trans (lineKept_sendNext p _)

end

/-! ## The ticks and the timers -/

section
variable {s : State}

theorem lineKept_ageOutQueue (p : Port) (s : State) : LineKept s (ageOutQueue p s) := by
  refine .trans (t := s.setQueue p { s.queues.get p with
    entries := (s.queues.get p).entries.filter (fun e => !e.overAge s.timestamp s.settings.ageLimit) }) ?_ (.of_apart rfl)
  exact lineKept_setQueue fun h => by rw [h]; rfl

theorem lineKept_ageOut (p : Port) (s : State) : LineKept s (ageOut p s) := by
  unfold ageOut
  split
  · exact (lineKept_ageOutQueue p s).trans (lineKept_offerNotice _)
  · exact lineKept_ageOutQueue p s

theorem lineKept_ageOutBoth (s : State) : LineKept s (ageOutBoth s) := by
  have both := (lineKept_ageOutQueue .a s).trans (lineKept_ageOutQueue .b _)
  unfold ageOutBoth
  split
  · exact both.trans (lineKept_offerNotice _)
  · exact both

theorem lineKept_expireOn (n : Fin 32) (p : Port) (s : State) : LineKept s (expireOn n p s) := by
  unfold expireOn
  split
  · rename_i h
    exact lineKept_place (by rw [h.1]; rfl) _
  · refine .trans (lineKept_setSlot ?_) (lineKept_slotEvent n _)
    exact .inl rfl

theorem lineKept_fireBeacon (n : Fin 32) (s : State) : LineKept s (fireBeacon n s) := by
  unfold fireBeacon
  split
  · exact LineKept.foldl (fun t p => lineKept_expireOn n p t) _ s
  · exact .refl s

theorem lineKept_fireBeacons (choice : Nat) (due : List (Fin 32)) (s : State) : LineKept s (fireBeacons choice due s) :=
  LineKept.foldl (fun t n => lineKept_fireBeacon n t) _ s

theorem beaconRuns_startBeacon_of_running {x : Slot} (h : x.beaconTimer ≠ none) :
    (startBeacon x).beaconRuns = x.beaconRuns := by
  have running : x.beaconRuns = some true := by
    by_contra hx
    exact h (x.beaconTimer_eq_none_iff.mpr hx)
  have started := beaconRuns_startBeacon x
  unfold startBeacon at started ⊢
  split
  · rw [running]; rfl
  · rfl

theorem beaconRuns_countBeacon (x : Slot) : (countBeacon x).beaconRuns = x.beaconRuns := by
  unfold countBeacon
  split
  · rename_i y hy
    split
    · rfl
    · rename_i k hk
      split
      · exact beaconRuns_startBeacon_of_running (by simp [Slot.beaconTimer, hy, hk])
      · rw [beaconRuns_of_beacon hy, hk]; rfl
  · rfl

theorem beaconRuns_ageSlot (x : Slot) : (ageSlot x).beaconRuns = x.beaconRuns := by
  unfold ageSlot
  split
  · rename_i hx
    split
    · rfl
    · exact (beaconRuns_of_answer hx).symm
  · rfl

theorem lineKept_countTick (s : State) : LineKept s (countTick s) := by
  have drained : LineKept s { s with ports := ⟨drainPort s.ports.a, drainPort s.ports.b⟩ } := by
    refine ⟨?_, (LineKept.refl s).2⟩
    have ports (p : Port) : PerPort.get ⟨drainPort s.ports.a, drainPort s.ports.b⟩ p = drainPort (s.ports.get p) := by
      cases p <;> rfl
    simp only [State.standing, ports]
    rfl
  exact drained.trans (lineKept_mapVec fun x => (beaconRuns_countBeacon _).trans (beaconRuns_ageSlot x))

theorem liveOk_tickCoolDown (p : Port) (h : LiveOk s) : LiveOk (tickCoolDown p s) := by
  unfold tickCoolDown
  split
  · exact h
  · rename_i k hk
    split
    · exact liveOk_coolDownEnd h (by rw [hk]; nofun)
    · refine (lineKept_setPort ?_ ?_).liveOk h
      · rfl
      · rw [hk]; rfl

theorem liveOk_tickSettle (h : LiveOk s) : LiveOk (tickSettle s) := by
  unfold tickSettle
  split
  · exact h
  · rename_i k hk
    split
    · exact liveOk_settleExpiry h (h.2.settle.mp (by rw [hk]; nofun))
    · have counted : LineKept s { s with settle := some (k - 1) } :=
        ⟨by simp only [State.standing, hk]; rfl, (LineKept.refl s).2⟩
      exact counted.liveOk h

theorem liveOk_tick1ms (h : LiveOk s) : LiveOk (tick1ms s) := by
  have counted : LiveOk (tickCoolDown .b (tickCoolDown .a (countTick s))) :=
    liveOk_tickCoolDown .b (liveOk_tickCoolDown .a ((lineKept_countTick s).liveOk h))
  unfold tick1ms
  dsimp only
  split
  · exact (lineKept_ageOutBoth _).liveOk (liveOk_tickSettle counted)
  · have chosen := (LineKept.of_apart rfl).liveOk counted
      (t := { tickCoolDown .b (tickCoolDown .a (countTick s)) with
        freeCount := (tickCoolDown .b (tickCoolDown .a (countTick s))).freeCount + 1 })
    split
    · exact (lineKept_ageOutBoth _).liveOk (liveOk_tickSettle ((lineKept_fireBeacons _ _ _).liveOk chosen))
    · exact (lineKept_fireBeacons _ _ _).liveOk ((lineKept_ageOutBoth _).liveOk (liveOk_tickSettle chosen))

theorem liveOk_takeTick1 (h : LiveOk s) : LiveOk (takeTick1 s) := by
  unfold takeTick1
  split
  · exact liveOk_settleRestart (liveOk_tick1ms ((LineKept.of_apart rfl).liveOk h))
  · exact h

theorem beaconRuns_countLapse (x : Slot) : (countLapse x).beaconRuns = x.beaconRuns := by
  unfold countLapse
  split
  · rename_i hx
    split
    · rfl
    · exact (beaconRuns_of_capture hx).symm
  · rfl

theorem lineKept_tickHolds (s : State) : LineKept s (tickHolds s) :=
  (lineKept_mapVec beaconRuns_countLapse).trans (LineKept.foldl (fun t n => lineKept_lapse n t) _ _)

theorem lineKept_repeatExpiry (s : State) : LineKept s (repeatExpiry s) :=
  .trans (t := { s with notice := { s.notice with repeatTimer := none } }) (.of_apart rfl) (lineKept_offerNotice _)

theorem lineKept_tickRepeat (s : State) : LineKept s (tickRepeat s) := by
  unfold tickRepeat
  split
  · exact .refl s
  · split
    · exact lineKept_repeatExpiry s
    · exact .of_apart rfl

theorem lineKept_takeTick10 (s : State) : LineKept s (takeTick10 s) := by
  unfold takeTick10
  split
  · refine .trans (t := { s with due := { s.due with ten := false } }) (.of_apart rfl) ?_
    exact ((lineKept_tickHolds _).trans (lineKept_tickRepeat _)).trans (lineKept_offerNotice _)
  · exact .refl s

theorem liveOk_tick100ms (h : LiveOk s) : LiveOk (tick100ms s) := by
  unfold tick100ms
  split
  · exact h
  · rename_i o ho
    split
    · exact liveOk_expireLease o h
    · exact (LineKept.of_owner fun hn => by cases hn.symm.trans ho).liveOk h

theorem liveOk_takeTick100 (h : LiveOk s) : LiveOk (takeTick100 s) := by
  unfold takeTick100
  split
  · exact liveOk_tick100ms ((LineKept.of_apart rfl).liveOk h)
  · exact h

theorem liveOk_advanceTime (h : LiveOk s) : LiveOk (advanceTime s) :=
  (LineKept.of_apart rfl).liveOk (liveOk_takeTick100 ((lineKept_takeTick10 _).liveOk (liveOk_takeTick1 h)))

/-! ## A running copy -/

theorem lineKept_fillHeldPlace (p : Port) (b : EntryBody) (s : State) : LineKept s (fillHeldPlace p b s) := by
  unfold fillHeldPlace
  split
  · rename_i hheld
    exact lineKept_setQueue fun h => by rw [h] at hheld; cases hheld
  · exact .refl s

theorem lineKept_completeCopy (s : State) : LineKept s (completeCopy s) := by
  unfold completeCopy
  split
  · exact .refl s
  · refine .trans ?_ (lineKept_fillHeldPlace _ _ _)
    exact .of_apart rfl

theorem lineKept_advanceCopy (s : State) : LineKept s (advanceCopy s) := by
  unfold advanceCopy
  split
  · exact .refl s
  · split
    · dsimp only
      split
      · refine .trans ?_ (lineKept_completeCopy _)
        exact .of_apart rfl
      · exact .of_apart rfl
    · exact lineKept_completeCopy s

end

/-! ## While RESET is asserted (R23, R32, R33) -/

section
variable {s : State}

theorem receiveRow_of_reset (h : s.resetPin = true) (p : Port) (x : LineEvent) : receiveRow p x s = .next s := if_pos h

theorem requestRow_of_reset (h : s.resetPin = true) (f : Handler) (code : Byte) (e : Envelope) :
    requestRow f code e s = .next s := if_pos h

theorem moveOutFrom_of_reset (h : s.resetPin = true) (x : Source) (p : Port) : moveOutFrom x p s = s := by
  simp [moveOutFrom, h]

theorem execLeaseExpiry_of_reset (h : s.resetPin = true) : execLeaseExpiry s = .next s := by
  unfold execLeaseExpiry
  split
  · rfl
  · exact if_pos h

end

/-- Settles O5, by the row: each looks at RESET before it acts. -/
theorem resetHoldsThePart : Obligations.ResetHoldsThePart := by
  intro c s h hassert hrelease hpresent hloss
  have held {P : Prop} : ¬(s.resetPin = false ∧ P) := fun hp => by rw [h] at hp; cases hp.1
  cases c with
  | resetAssert => exact absurd rfl hassert
  | resetRelease x => exact absurd rfl (hrelease x)
  | signalPresent p => exact absurd rfl (hpresent p)
  | lossOfSignal p => exact absurd rfl (hloss p)
  | receiveSof | receiveDataByte | receiveEof | receiveAbort | receiveIdle | codeError => exact receiveRow_of_reset h ..
  | coolDownExpiry | joinSettleExpiry | beaconExpiry | noticeRepeatExpiry => exact if_neg held
  | moveOutAnswer | moveOutMreply | moveOutNotice | moveOutAssign | moveOutBeacon =>
    exact congrArg _ (moveOutFrom_of_reset h ..)
  | throughFrameStart | restartBegin => exact if_neg (by simp [h])
  | leaseExpiry => exact execLeaseExpiry_of_reset h
  | transmitSymbol | tick1ms | queueAgeOut | tick10ms | holdTimerExpiry | tick100ms | bankCopyAdvance | bankCopyComplete
  | assign | timestampCounterAdvance => exact if_pos h
  | ident | claim | renounce | settingsRead | settingsWrite | entryRead | entryWrite | entryClear | bankCopy | bankSwap
  | slotSetup | slotLoad | slotReadWithoutHold | slotReadWithHold | slotRelease | noticeAck | statsReadWithoutClear
  | statsReadWithClear | restart | unknownRequest => exact requestRow_of_reset h ..

/-! ## Every command -/

section
variable {s : State}

theorem exists_next_ite {c : Prop} [Decidable c] {u v : State} (hu : c → LiveOk u) (hv : ¬c → LiveOk v) :
    ∃ t, (if c then .next u else .next v : Host.Outcome State Fault Refusal) = .next t ∧ LiveOk t := by
  split
  · exact ⟨u, rfl, hu ‹_›⟩
  · exact ⟨v, rfl, hv ‹_›⟩

theorem liveOk_requestRow {f : Handler} (hf : f.LineSafe) (code : Byte) (e : Envelope) (h : LiveOk s) :
    ∃ t, requestRow f code e s = .next t ∧ LiveOk t :=
  exists_next_ite (fun _ => h) fun _ => liveOk_settleRestart (liveOk_agentRequest hf code h)

theorem liveOk_receiveRow (p : Port) (x : LineEvent) (h : LiveOk s) : ∃ t, receiveRow p x s = .next t ∧ LiveOk t :=
  exists_next_ite (fun _ => h) fun _ => liveOk_settleRestart (liveOk_receive p x h)

theorem liveOk_execLeaseExpiry (h : LiveOk s) : ∃ t, execLeaseExpiry s = .next t ∧ LiveOk t := by
  unfold execLeaseExpiry
  split
  · exact ⟨s, rfl, h⟩
  · exact exists_next_ite (fun _ => h) fun _ => liveOk_expireLease _ h

/-- Out of reset every command but RESET_ASSERT leaves a part whose line stands. -/
theorem liveOk_exec {c : Instr} (hc : c ≠ .resetAssert) (h : LiveOk s) : ∃ t, exec c s = .next t ∧ LiveOk t := by
  have kept {u : State} (hu : LineKept s u) : ∃ t, Host.Outcome.next (φ := Fault) (ρ := Refusal) u = .next t ∧ LiveOk t :=
    ⟨u, rfl, hu.liveOk h⟩
  have outOfReset {u : State} (hu : LiveOk u) :
      ∃ t, (if s.resetPin then .next s else .next u : Host.Outcome State Fault Refusal) = .next t ∧ LiveOk t :=
    exists_next_ite (fun _ => h) fun _ => hu
  have reported (x : PerPort Bool) : LiveOk { s with signal := x } := (LineKept.of_apart rfl).liveOk h
  cases c with
  | resetAssert => exact absurd rfl hc
  | resetRelease straps => exact exists_next_ite (fun hp => by cases h.1.symm.trans hp) fun _ => h
  | signalPresent p => exact exists_next_ite (fun hp => liveOk_startSync (reported _) hp.2) fun _ => reported _
  | lossOfSignal p =>
    exact exists_next_ite (fun _ => liveOk_settleRestart (liveOk_loseSignal (reported _))) fun _ => reported _
  | receiveSof | receiveDataByte | receiveEof | receiveAbort | receiveIdle | codeError => exact liveOk_receiveRow _ _ h
  | coolDownExpiry p =>
    exact exists_next_ite (fun hp => liveOk_coolDownEnd h hp.2.2) fun _ => h
  | joinSettleExpiry => exact exists_next_ite (fun hp => liveOk_settleExpiry h hp.2) fun _ => h
  | throughFrameStart p => exact exists_next_ite (fun _ => (lineKept_startThrough p s).liveOk h) fun _ => h
  | transmitSymbol p => exact outOfReset (liveOk_settleRestart ((lineKept_transmit p s).liveOk h))
  | moveOutAnswer | moveOutMreply | moveOutNotice | moveOutAssign | moveOutBeacon => exact kept (lineKept_moveOutFrom _ _ s)
  | tick1ms => exact outOfReset (liveOk_takeTick1 h)
  | queueAgeOut p => exact outOfReset (liveOk_settleRestart ((lineKept_ageOut p s).liveOk h))
  | beaconExpiry n =>
    refine exists_next_ite (fun hp => LineKept.liveOk (.trans (lineKept_setSlot ?_) (lineKept_fireBeacon n _)) h) fun _ => h
    exact .inl (beaconRuns_startBeacon_of_running hp.2)
  | tick10ms => exact outOfReset ((lineKept_takeTick10 s).liveOk h)
  | holdTimerExpiry n => exact outOfReset ((lineKept_lapse n s).liveOk h)
  | noticeRepeatExpiry => exact exists_next_ite (fun _ => (lineKept_repeatExpiry s).liveOk h) fun _ => h
  | tick100ms => exact outOfReset (liveOk_takeTick100 h)
  | leaseExpiry => exact liveOk_execLeaseExpiry h
  | bankCopyAdvance => exact outOfReset ((lineKept_advanceCopy s).liveOk h)
  | bankCopyComplete => exact outOfReset ((lineKept_completeCopy s).liveOk h)
  | ident e ps => exact liveOk_requestRow (lineSafe_ident ps) _ e h
  | claim e ps => exact liveOk_requestRow (lineSafe_claim ps) _ e h
  | renounce e ps => exact liveOk_requestRow (lineSafe_renounce ps) _ e h
  | settingsRead e ps => exact liveOk_requestRow (lineSafe_settingsRead ps) _ e h
  | settingsWrite e ps => exact liveOk_requestRow (lineSafe_settingsWrite ps) _ e h
  | entryRead e ps => exact liveOk_requestRow (lineSafe_entryRead ps) _ e h
  | entryWrite e ps => exact liveOk_requestRow (lineSafe_entryWrite ps) _ e h
  | entryClear e ps => exact liveOk_requestRow (lineSafe_entryClear ps) _ e h
  | bankCopy e ps => exact liveOk_requestRow (lineSafe_bankCopy ps) _ e h
  | bankSwap e ps => exact liveOk_requestRow (lineSafe_bankSwap ps) _ e h
  | slotSetup e ps => exact liveOk_requestRow (lineSafe_slotSetup ps) _ e h
  | slotLoad e ps => exact liveOk_requestRow (lineSafe_slotLoad ps) _ e h
  | slotReadWithoutHold e slot => exact liveOk_requestRow (lineSafe_slotReadPlain slot) _ e h
  | slotReadWithHold e slot => exact liveOk_requestRow (lineSafe_slotReadHold slot) _ e h
  | slotRelease e ps => exact liveOk_requestRow (lineSafe_slotRelease ps) _ e h
  | noticeAck e ps => exact liveOk_requestRow (lineSafe_noticeAck ps) _ e h
  | statsReadWithoutClear e group => exact liveOk_requestRow (lineSafe_statsPlain group) _ e h
  | statsReadWithClear e group => exact liveOk_requestRow (lineSafe_statsClear group) _ e h
  | restart e ps => exact liveOk_requestRow (lineSafe_restart ps) _ e h
  | unknownRequest e code ps => exact liveOk_requestRow (lineSafe_handlerOf code ps) code e h
  | assign p n => exact outOfReset ((lineKept_assignEnd p n s).liveOk h)
  | restartBegin => exact exists_next_ite (fun _ => liveOk_restartBegin h.1) fun _ => h
  | timestampCounterAdvance => exact outOfReset (liveOk_advanceTime h)

/-- R32: RESET_ASSERT leaves the part as full reset does, the detectors' reports and the sampled rate standing. -/
theorem lineOk_resetAssert (s : State) :
    LineOk { State.reset with signal := s.signal, rate := s.rate, freeCount := s.freeCount, pending := s.pending } :=
  { lineOk_reset with }

theorem liveOk_releasePort {p : Port} (h : LiveOk s) (hp : (s.ports.get p).state = .down) : LiveOk (releasePort p s) := by
  unfold releasePort
  split
  · exact liveOk_startSync h hp
  · exact h

theorem releasePort_port_of_ne {p q : Port} (h : p ≠ q) (s : State) :
    (releasePort p s).ports.get q = s.ports.get q := by
  unfold releasePort
  split
  · unfold startSync
    rw [addEvent_frame]
    exact PerPort.get_set_of_ne _ _ h
  · rfl

/-- R23: RESET_RELEASE finds both ports DOWN. -/
theorem lineOk_release (straps : BitVec 2) (hreset : s.resetPin = true) (h : LineOk s) :
    LineOk (releasePort .b (releasePort .a { s with resetPin := false, rate := straps })) := by
  obtain ⟨-, -, ha, hb⟩ := h.inReset hreset
  have released : LiveOk { s with resetPin := false, rate := straps } :=
    ⟨rfl, { h with inReset := nofun }⟩
  refine (liveOk_releasePort (liveOk_releasePort (p := .a) released ha) ?_).2
  rw [releasePort_port_of_ne (by decide)]
  exact hb

/-- While RESET is asserted the line stands as full reset leaves it, until the release. -/
theorem lineOk_exec_of_reset {c : Instr} {t : State} (hreset : s.resetPin = true) (h : LineOk s)
    (ht : exec c s = .next t) : LineOk t := by
  have held {P : Prop} : ¬(s.resetPin = false ∧ P) := fun hp => by rw [hreset] at hp; cases hp.1
  have reported (x : PerPort Bool) : LineOk { s with signal := x } := { h with }
  by_cases hassert : c = .resetAssert
  · subst c
    cases ht
    exact lineOk_resetAssert s
  by_cases hrelease : ∃ x, c = .resetRelease x
  · obtain ⟨x, rfl⟩ := hrelease
    cases (if_pos hreset).symm.trans ht
    exact lineOk_release x hreset h
  by_cases hpresent : ∃ p, c = .signalPresent p
  · obtain ⟨p, rfl⟩ := hpresent
    cases (if_neg held).symm.trans ht
    exact reported _
  by_cases hloss : ∃ p, c = .lossOfSignal p
  · obtain ⟨p, rfl⟩ := hloss
    cases (if_neg held).symm.trans ht
    exact reported _
  cases (resetHoldsThePart c s hreset hassert (not_exists.mp hrelease) (not_exists.mp hpresent)
    (not_exists.mp hloss)).symm.trans ht
  exact h

theorem lineOk_exec {c : Instr} {t : State} (h : LineOk s) (ht : exec c s = .next t) : LineOk t := by
  by_cases hreset : s.resetPin = true
  · exact lineOk_exec_of_reset hreset h ht
  by_cases hc : c = .resetAssert
  · subst c
    cases ht
    exact lineOk_resetAssert s
  obtain ⟨u, hu, live⟩ := liveOk_exec hc ⟨Bool.eq_false_iff.mpr hreset, h⟩
  cases hu.symm.trans ht
  exact live.2

end

/-- Settles O56: an operation keeps the line as it stands (LineKept), or moves a port, the relay state or the latch to where the line
stands again. -/
theorem stepKeepsLineOk : Obligations.StepKeepsLineOk := by
  intro s t h ht
  unfold step at ht
  split at ht
  · cases ht
    exact h
  · rename_i rest _
    have taken : LineOk { s with pending := rest } := { h with }
    exact lineOk_exec taken ht

end Sys2Proof.Machine
end

section
/-! SUPPORT and proofs of the time base: what a microsecond, a 1 ms tick and a 10 ms tick count, and what runs out at them. -/

namespace Sys2Proof.Machine

/-! ## The 10 ms tick: holds and the repeat timer (R92, R95, R175) -/

section
variable {n : Fin 32} {s : State}

theorem nodup_allSlots : allSlots.Nodup := List.nodup_finRange 32

theorem mem_allSlots (n : Fin 32) : n ∈ allSlots := List.mem_finRange n

/-- R94: the slot of a hold that has lapsed: FULL with the held record, or with the pending one. -/
def lapsedSlot (c : CapturedRecord) (o : Bool) (q : Option CapturedRecord) (x : Slot) : Slot :=
  match q with
  | none => { x with body := .capture (.full c o) }
  | some r => { x with body := .capture (.full r true), count := satInc x.count }

theorem lapse_of_body {c : CapturedRecord} {o : Bool} {q : Option CapturedRecord} {k : Nat}
    (h : s.slots[n].body = .capture (.held c o q k)) :
    (lapse n s).slots[n] = lapsedSlot c o q s.slots[n] ∧ n ∉ (lapse n s).holdList := by
  cases q with
  | none =>
    rw [lapse_of_held h, slotEvent_frame]
    exact ⟨Vector.getElem_set_self _, by simp⟩
  | some r =>
    rw [lapse_of_held_pending h, slotEvent_frame]
    exact ⟨Vector.getElem_set_self _, by simp⟩

theorem lapse_holdList_subset (n : Fin 32) (s : State) : (lapse n s).holdList ⊆ s.holdList := by
  unfold lapse
  split
  · rw [slotEvent_frame]
    exact List.filter_sublist.subset
  · rw [slotEvent_frame]
    exact List.filter_sublist.subset
  · exact List.Subset.refl _

theorem foldl_lapse_holdList_subset (l : List (Fin 32)) (s : State) :
    (l.foldl (fun t n => lapse n t) s).holdList ⊆ s.holdList := by
  induction l generalizing s with
  | nil => exact List.Subset.refl _
  | cons m l ih => exact List.Subset.trans (ih (lapse m s)) (lapse_holdList_subset m s)

theorem foldl_lapse_slots_of_notMem (l : List (Fin 32)) (s : State) (h : n ∉ l) :
    (l.foldl (fun t n => lapse n t) s).slots[n] = s.slots[n] := by
  induction l generalizing s with
  | nil => rfl
  | cons m l ih =>
    exact (ih (lapse m s) (List.not_mem_of_not_mem_cons h)).trans (lapse_slots_of_ne s (List.ne_of_not_mem_cons h))

/-- R95: of several holds that lapse together each lapses once. -/
theorem foldl_lapse_of_mem {l : List (Fin 32)} (hl : l.Nodup) (hn : n ∈ l) {c : CapturedRecord} {o : Bool}
    {q : Option CapturedRecord} {k : Nat} (h : s.slots[n].body = .capture (.held c o q k)) :
    (l.foldl (fun t n => lapse n t) s).slots[n] = lapsedSlot c o q s.slots[n]
      ∧ n ∉ (l.foldl (fun t n => lapse n t) s).holdList := by
  induction l generalizing s with
  | nil => cases hn
  | cons m l ih =>
    obtain ⟨hm, hl⟩ := List.nodup_cons.mp hl
    rw [List.foldl_cons]
    by_cases hnm : n = m
    · subst hnm
      obtain ⟨hslot, hlist⟩ := lapse_of_body h
      exact ⟨(foldl_lapse_slots_of_notMem l _ hm).trans hslot, fun hmem => hlist (foldl_lapse_holdList_subset l _ hmem)⟩
    · have stands := lapse_slots_of_ne s hnm
      rw [← stands] at h ⊢
      exact ih hl (List.mem_of_ne_of_mem hnm hn) h

theorem slotEvent_repeatTimer (n : Fin 32) (s : State) : (slotEvent n s).notice.repeatTimer = s.notice.repeatTimer := by
  unfold slotEvent
  split
  · rw [addEvent_frame]
  · rfl

theorem lapse_repeatTimer (n : Fin 32) (s : State) : (lapse n s).notice.repeatTimer = s.notice.repeatTimer := by
  unfold lapse
  split
  · exact slotEvent_repeatTimer ..
  · exact slotEvent_repeatTimer ..
  · rfl

theorem foldl_lapse_repeatTimer (l : List (Fin 32)) (s : State) :
    (l.foldl (fun t n => lapse n t) s).notice.repeatTimer = s.notice.repeatTimer := by
  induction l generalizing s with
  | nil => rfl
  | cons m l ih => exact (ih (lapse m s)).trans (lapse_repeatTimer m s)

theorem countLapse_of_held {x : Slot} {c : CapturedRecord} {o : Bool} {q : Option CapturedRecord} {k : Nat}
    (h : x.body = .capture (.held c o q k)) :
    countLapse x = if k ≤ 1 then x else { x with body := .capture (.held c o q (k - 1)) } := by
  unfold countLapse
  rw [h]

theorem countLapse_of_not_held {x : Slot} (h : x.isHeld = false) : countLapse x = x := by
  unfold countLapse
  split
  · rename_i hx
    simp [Slot.isHeld, hx] at h
  · rfl

theorem lapseDue_of_held {x : Slot} {c : CapturedRecord} {o : Bool} {q : Option CapturedRecord} {k : Nat}
    (h : x.body = .capture (.held c o q k)) : lapseDue x = decide (k ≤ 1) := by
  unfold lapseDue
  rw [h]

theorem tickHolds_of_none_due (h : ∀ (n : Fin 32) c o q k, s.slots[n].body = .capture (.held c o q k) → 2 ≤ k) :
    tickHolds s = { s with slots := mapVec countLapse s.slots } := by
  have none_due : allSlots.filter (fun n => lapseDue s.slots[n]) = [] := by
    refine List.filter_eq_nil_iff.mpr fun n _ => ?_
    unfold lapseDue
    split
    · rename_i hn
      have := h n _ _ _ _ hn
      simp only [decide_eq_true_eq]
      omega
    · simp
  rw [tickHolds, none_due]
  rfl

/-- R92, R95: a hold at its last tick lapses. -/
theorem tickHolds_of_last {c : CapturedRecord} {o : Bool} {q : Option CapturedRecord}
    (h : s.slots[n].body = .capture (.held c o q 1)) :
    (tickHolds s).slots[n] = lapsedSlot c o q s.slots[n] ∧ n ∉ (tickHolds s).holdList := by
  have due : n ∈ allSlots.filter (fun m => lapseDue s.slots[m]) :=
    List.mem_filter.mpr ⟨mem_allSlots n, by rw [lapseDue_of_held h]; rfl⟩
  have stands : ({ s with slots := mapVec countLapse s.slots } : State).slots[n] = s.slots[n] := by
    rw [getElem_mapVec, countLapse_of_held h, if_pos (Nat.le_refl 1)]
  have lapsed := foldl_lapse_of_mem (s := { s with slots := mapVec countLapse s.slots }) (nodup_allSlots.filter _) due
    (by rw [stands]; exact h)
  rwa [stands] at lapsed

theorem tickHolds_repeatTimer (s : State) : (tickHolds s).notice.repeatTimer = s.notice.repeatTimer :=
  foldl_lapse_repeatTimer ..

theorem tickRepeat_frame (s : State) :
    tickRepeat s = { s with notice := (tickRepeat s).notice, queues := (tickRepeat s).queues } := by
  unfold tickRepeat repeatExpiry
  split
  · rfl
  · split
    · rw [offerNotice_frame]
    · rfl

theorem tickRepeat_of_le (h : ∀ k, s.notice.repeatTimer = some k → 2 ≤ k) :
    tickRepeat s = { s with notice := { s.notice with repeatTimer := s.notice.repeatTimer.map (fun k => k - 1) } } := by
  unfold tickRepeat
  split
  · rename_i hk
    rw [hk, Option.map_none, ← hk]
  · rename_i k hk
    have := h k hk
    rw [if_neg (by omega), hk]
    rfl

theorem tickRepeat_of_last (h : s.notice.repeatTimer = some 1) : (tickRepeat s).notice.repeatTimer = none := by
  rw [tickRepeat, h]
  simp only [Nat.le_refl, if_true, repeatExpiry]
  rw [offerNotice_frame]

theorem tick10ms_frame (s : State) : tick10ms s = { tickHolds s with
    notice := (tick10ms s).notice, queues := (tick10ms s).queues } := by
  unfold tick10ms
  rw [offerNotice_frame, tickRepeat_frame]

theorem exec_tick10ms_of_due (hreset : s.resetPin = false) (h : s.due.ten = true) :
    exec .tick10ms s = .next (tick10ms { s with due := { s.due with ten := false } }) := by
  refine (if_neg (by rw [hreset]; decide)).trans ?_
  rw [takeTick10_of_due h]

theorem exec_tick10ms_of_not_due (h : s.due.ten = false) : exec .tick10ms s = .next s := by
  refine (congrArg _ (congrArg _ (takeTick10_of_not_due h))).trans (ite_self _)

end

/-- Settles O38: the timers count unless one is at its last tick, and what ends there ends in the tick. -/
theorem tenMillisecondTimersRunOut : Obligations.TenMillisecondTimersRunOut := by
  refine ⟨fun s h => exec_tick10ms_of_not_due h, fun s hreset hdue hholds hrepeat => ?counts,
    fun n s c o q hreset hdue hlast => ?lapses, fun s hreset hdue hlast => ?stops,
    fun s hreset hruns => if_pos ⟨hreset, hruns⟩, fun s h => if_neg fun hall => hall.2 h⟩
  case counts =>
    let u : State := { s with
      due := { s.due with ten := false }
      slots := mapVec countLapse s.slots
      notice := { s.notice with repeatTimer := s.notice.repeatTimer.map (fun k => k - 1) } }
    refine ⟨u, (exec_tick10ms_of_due hreset hdue).trans ?_, rfl, fun n => ?_⟩
    · rw [tick10ms, tickHolds_of_none_due (by exact hholds), tickRepeat_of_le (by exact hrepeat)]
    · simp only [u, getElem_mapVec]
      refine ⟨fun c o q k h => ?_, countLapse_of_not_held⟩
      have := hholds n c o q k h
      rw [countLapse_of_held h, if_neg (by omega)]
  case lapses =>
    refine ⟨_, exec_tick10ms_of_due hreset hdue, ?_⟩
    obtain ⟨hslot, hlist⟩ := tickHolds_of_last (s := { s with due := { s.due with ten := false } }) hlast
    rw [tick10ms_frame]
    exact ⟨hlist, hslot⟩
  case stops =>
    refine ⟨_, exec_tick10ms_of_due hreset hdue, ?_⟩
    rw [tick10ms, offerNotice_frame]
    exact tickRepeat_of_last ((tickHolds_repeatTimer _).trans hlast)

/-! ## What the ticks leave unchanged (R33, R34) -/

section
variable {n : Fin 32} {p : Port} {s : State}

theorem tickCoolDown_frame (p : Port) (s : State) : tickCoolDown p s = { s with
    ports := (tickCoolDown p s).ports, notice := (tickCoolDown p s).notice, queues := (tickCoolDown p s).queues } := by
  unfold tickCoolDown coolDownEnd
  split
  · rfl
  · split
    · rw [addEvent_frame]
      rfl
    · rfl

theorem tickSettle_frame (s : State) : tickSettle s = { s with
    relay := (tickSettle s).relay, settle := (tickSettle s).settle, slots := (tickSettle s).slots
    queues := (tickSettle s).queues } := by
  unfold tickSettle settleExpiry
  split
  · rfl
  · split
    · split
      · rw [enterFallback_frame]
      · rw [enterRelay_frame]
    · rfl

theorem expireOn_frame (n : Fin 32) (p : Port) (s : State) : expireOn n p s = { s with
    slots := (expireOn n p s).slots, notice := (expireOn n p s).notice, queues := (expireOn n p s).queues } := by
  unfold expireOn lateExpiry
  split
  · rw [place_frame]
  · rw [slotEvent_frame]
    rfl

theorem foldl_expireOn_frame (n : Fin 32) (ps : List Port) (s : State) : ps.foldl (fun t p => expireOn n p t) s = { s with
    slots := (ps.foldl (fun t p => expireOn n p t) s).slots, notice := (ps.foldl (fun t p => expireOn n p t) s).notice
    queues := (ps.foldl (fun t p => expireOn n p t) s).queues } := by
  induction ps generalizing s with
  | nil => rfl
  | cons p ps ih => rw [List.foldl_cons, ih, expireOn_frame]

theorem fireBeacon_frame (n : Fin 32) (s : State) : fireBeacon n s = { s with
    slots := (fireBeacon n s).slots, notice := (fireBeacon n s).notice, queues := (fireBeacon n s).queues } := by
  unfold fireBeacon
  split
  · exact foldl_expireOn_frame ..
  · rfl

theorem fireBeacons_frame (c : Nat) (due : List (Fin 32)) (s : State) : fireBeacons c due s = { s with
    slots := (fireBeacons c due s).slots, notice := (fireBeacons c due s).notice
    queues := (fireBeacons c due s).queues } := by
  unfold fireBeacons
  generalize orderByRank (Config.beaconRank c) due = ns
  induction ns generalizing s with
  | nil => rfl
  | cons n ns ih => rw [List.foldl_cons, ih, fireBeacon_frame]

/-- R33, R34: the ticks that are due, RESET and the restart's mark stand while a tick is counted. -/
def SameClock (s t : State) : Prop := t.due = s.due ∧ t.resetPin = s.resetPin ∧ t.restartPending = s.restartPending

theorem SameClock.trans {s t u : State} (h : SameClock s t) (h' : SameClock t u) : SameClock s u := by
  obtain ⟨hdue, hreset, hpending⟩ := h
  obtain ⟨hdue', hreset', hpending'⟩ := h'
  exact ⟨hdue'.trans hdue, hreset'.trans hreset, hpending'.trans hpending⟩

theorem sameClock_tickCoolDown (p : Port) (s : State) : SameClock s (tickCoolDown p s) := by
  rw [tickCoolDown_frame]
  exact ⟨rfl, rfl, rfl⟩

theorem sameClock_tickSettle (s : State) : SameClock s (tickSettle s) := by
  rw [tickSettle_frame]
  exact ⟨rfl, rfl, rfl⟩

theorem sameClock_fireBeacons (c : Nat) (due : List (Fin 32)) (s : State) : SameClock s (fireBeacons c due s) := by
  rw [fireBeacons_frame]
  exact ⟨rfl, rfl, rfl⟩

theorem sameClock_agedOut (s : State) : SameClock s (agedOut s) := by
  rw [agedOut_frame]
  exact ⟨rfl, rfl, rfl⟩

theorem sameClock_tick1ms (s : State) : SameClock s (tick1ms s) := by
  have counted : SameClock s (tickCoolDown .b (tickCoolDown .a (countTick s))) :=
    (sameClock_tickCoolDown .a (countTick s)).trans (sameClock_tickCoolDown .b _)
  have chosen : SameClock s { tickCoolDown .b (tickCoolDown .a (countTick s)) with
    freeCount := (tickCoolDown .b (tickCoolDown .a (countTick s))).freeCount + 1 } := counted
  unfold tick1ms
  simp only [ageOutBoth_eq_agedOut]
  split
  · exact (counted.trans (sameClock_tickSettle _)).trans (sameClock_agedOut _)
  · split
    · exact ((chosen.trans (sameClock_fireBeacons ..)).trans (sameClock_tickSettle _)).trans (sameClock_agedOut _)
    · exact ((chosen.trans (sameClock_tickSettle _)).trans (sameClock_agedOut _)).trans (sameClock_fireBeacons ..)

theorem setLatch_clock (s : State) : (setLatch s).due = s.due ∧ (setLatch s).resetPin = s.resetPin := by
  unfold setLatch
  split
  · rw [relayToFallback_frame]
    exact ⟨rfl, rfl⟩
  · exact ⟨rfl, rfl⟩

theorem tick100ms_clock (s : State) : (tick100ms s).due = s.due ∧ (tick100ms s).resetPin = s.resetPin := by
  unfold tick100ms expireLease
  split
  · exact ⟨rfl, rfl⟩
  · split
    · split
      · rw [clearOwner_frame]
        exact ⟨rfl, rfl⟩
      · obtain ⟨hdue, hreset⟩ := setLatch_clock (clearOwner s)
        rw [hdue, hreset, clearOwner_frame]
        exact ⟨rfl, rfl⟩
    · exact ⟨rfl, rfl⟩

theorem settleRestart_resetPin (s : State) : (settleRestart s).resetPin = s.resetPin := by
  unfold settleRestart
  split <;> rfl

theorem takeTick1_clock (h : s.due.one = true) :
    (takeTick1 s).due = { s.due with one := false } ∧ (takeTick1 s).resetPin = s.resetPin := by
  rw [takeTick1_of_due h, settleRestart_due, settleRestart_resetPin]
  obtain ⟨hdue, hreset, -⟩ := sameClock_tick1ms { s with due := { s.due with one := false } }
  exact ⟨hdue, hreset⟩

theorem takeTick10_clock (h : s.due.ten = true) :
    (takeTick10 s).due = { s.due with ten := false } ∧ (takeTick10 s).resetPin = s.resetPin := by
  rw [takeTick10_of_due h, tick10ms_frame, tickHolds, foldl_lapse_frame]
  exact ⟨rfl, rfl⟩

theorem takeTick100_clock (h : s.due.hundred = true) :
    (takeTick100 s).due = { s.due with hundred := false } ∧ (takeTick100 s).resetPin = s.resetPin := by
  rw [takeTick100_of_due h]
  exact tick100ms_clock _

theorem exec_advance_of_released (h : s.resetPin = false) : exec .timestampCounterAdvance s = .next (advanceTime s) :=
  if_neg (by rw [h]; decide)

/-- R34: a tick row that has taken its tick leaves the next microsecond as it would have been. -/
theorem exec_advance_of_taken {c : Instr} {take : State → State} {t : State}
    (hrow : exec c s = if s.resetPin then .next s else .next (take s)) (ht : exec c s = .next t)
    (hreset : (take s).resetPin = s.resetPin) (htake : advanceTime (take s) = advanceTime s) :
    exec .timestampCounterAdvance s = exec .timestampCounterAdvance t := by
  rw [hrow] at ht
  cases hpin : s.resetPin with
  | true =>
    rw [hpin, if_pos rfl] at ht
    injection ht with ht
    rw [ht]
  | false =>
    rw [hpin, if_neg (by decide)] at ht
    injection ht with ht
    rw [← ht, exec_advance_of_released hpin, exec_advance_of_released (hreset.trans hpin), htake]

theorem advanceTime_takeTick1 (h : s.due.one = true) : advanceTime (takeTick1 s) = advanceTime s := by
  obtain ⟨hdue, -⟩ := takeTick1_clock h
  rw [advanceTime, advanceTime, takeTick1_of_not_due (s := takeTick1 s) (by rw [hdue])]

theorem advanceTime_takeTick10 (hone : s.due.one = false) (h : s.due.ten = true) :
    advanceTime (takeTick10 s) = advanceTime s := by
  obtain ⟨hdue, -⟩ := takeTick10_clock h
  rw [advanceTime, advanceTime, takeTick1_of_not_due hone, takeTick1_of_not_due (s := takeTick10 s) (by rw [hdue]; exact hone),
    takeTick10_of_not_due (s := takeTick10 s) (by rw [hdue])]

theorem advanceTime_takeTick100 (hone : s.due.one = false) (hten : s.due.ten = false) (h : s.due.hundred = true) :
    advanceTime (takeTick100 s) = advanceTime s := by
  obtain ⟨hdue, -⟩ := takeTick100_clock h
  rw [advanceTime, advanceTime, takeTick1_of_not_due hone, takeTick10_of_not_due hten,
    takeTick1_of_not_due (s := takeTick100 s) (by rw [hdue]; exact hone),
    takeTick10_of_not_due (s := takeTick100 s) (by rw [hdue]; exact hten),
    takeTick100_of_not_due (s := takeTick100 s) (by rw [hdue])]

end

/-! ## The beacon timers that run out at a tick (R130, R131) -/

section
variable {n : Fin 32} {p : Port} {s : State}

theorem insertByRank_perm (rank : Nat → Nat) (n : Fin 32) (ns : List (Fin 32)) : (insertByRank rank n ns).Perm (n :: ns) := by
  induction ns with
  | nil => exact .refl _
  | cons m ns ih =>
    rw [insertByRank]
    split
    · exact .refl _
    · exact (ih.cons m).trans (.swap n m ns)

/-- The free order is an order of the timers that run out: each acts once, and no other. -/
theorem orderByRank_perm (rank : Nat → Nat) (ns : List (Fin 32)) : (orderByRank rank ns).Perm ns := by
  induction ns with
  | nil => exact .refl _
  | cons n ns ih => exact (insertByRank_perm rank n _).trans (ih.cons n)

theorem expireOn_body (n m : Fin 32) (p : Port) (s : State) : (expireOn n p s).slots[m].body = s.slots[m].body := by
  unfold expireOn lateExpiry
  split
  · rw [place_frame]
  · rw [slotEvent_frame, State.setSlot_getElem]
    split
    · subst m
      rfl
    · rfl

theorem foldl_expireOn_body (n m : Fin 32) (ps : List Port) (s : State) :
    (ps.foldl (fun t p => expireOn n p t) s).slots[m].body = s.slots[m].body := by
  induction ps generalizing s with
  | nil => rfl
  | cons p ps ih => exact (ih (expireOn n p s)).trans (expireOn_body n m p s)

/-- R131: an expiry may count as late, and leaves what its slot holds. -/
theorem fireBeacon_body (n m : Fin 32) (s : State) : (fireBeacon n s).slots[m].body = s.slots[m].body := by
  unfold fireBeacon
  split
  · exact foldl_expireOn_body ..
  · rfl

theorem fireBeacons_body (c : Nat) (due : List (Fin 32)) (m : Fin 32) (s : State) :
    (fireBeacons c due s).slots[m].body = s.slots[m].body := by
  unfold fireBeacons
  generalize orderByRank (Config.beaconRank c) due = ns
  induction ns generalizing s with
  | nil => rfl
  | cons n ns ih => exact (ih (fireBeacon n s)).trans (fireBeacon_body n m s)

/-- R130: a beacon at the start of a full interval. -/
def Slot.atFullInterval (x : Slot) : Prop := ∃ y, x.body = .beacon y ∧ y.timer = some y.interval.toNat

theorem Slot.atFullInterval.congr {x y : Slot} (h : x.atFullInterval) (hbody : y.body = x.body) : y.atFullInterval := by
  unfold Slot.atFullInterval
  rwa [hbody]

theorem startBeacon_of_atFullInterval {x : Slot} (h : x.atFullInterval) : startBeacon x = x ∧ x.beaconTimer ≠ none := by
  obtain ⟨y, hbody, htimer⟩ := h
  have started : startBeacon x = { x with body := .beacon { y with timer := some y.interval.toNat } } := by
    simp only [startBeacon, hbody]
  constructor
  · rw [started, ← htimer, ← hbody]
  · simp [Slot.beaconTimer, hbody, htimer]

/-- R130, R131: an expiry whose timer has just been started again is the tick's own. -/
theorem exec_beaconExpiry_of_atFullInterval (hreset : s.resetPin = false) (h : s.slots[n].atFullInterval) :
    exec (.beaconExpiry n) s = .next (fireBeacon n s) := by
  obtain ⟨stands, runs⟩ := startBeacon_of_atFullInterval h
  have same : s.setSlot n s.slots[n] = s := by simp [State.setSlot]
  exact (if_pos ⟨hreset, runs⟩).trans (by rw [stands, same])

theorem ran_beaconExpiry (ns : List (Fin 32)) (s : State) (hreset : s.resetPin = false)
    (h : ∀ n ∈ ns, s.slots[n].atFullInterval) :
    ran (ns.map .beaconExpiry) s = ns.foldl (fun t n => fireBeacon n t) s := by
  induction ns generalizing s with
  | nil => rfl
  | cons n ns ih =>
    rw [List.map_cons, ran_cons_of_next (exec_beaconExpiry_of_atFullInterval hreset (h n List.mem_cons_self)), List.foldl_cons]
    refine ih _ (by rw [fireBeacon_frame]; exact hreset) fun m hm => ?_
    exact (h m (List.mem_cons_of_mem n hm)).congr (fireBeacon_body n m s)

/-! ### The settle timer and the beacons -/

/-- The state at another count of the settle timer. -/
def State.setSettle (s : State) (x : Option Nat) : State := { s with settle := x }

theorem place_settle (p : Port) (b : EntryBody) (s : State) (x : Option Nat) :
    place p b (s.setSettle x) = (place p b s).setSettle x := by
  by_cases h : (s.queues.get p).room = true
  · rw [place, place, if_pos h, if_pos (by exact h)]
    rfl
  · rw [place, place, if_neg h, if_neg (by exact h)]

theorem offerNotice_settle (s : State) (x : Option Nat) : offerNotice (s.setSettle x) = (offerNotice s).setSettle x := by
  cases ho : s.owner with
  | none => rw [offerNotice_of_unowned (s := s) ho, offerNotice_of_unowned (by exact ho)]
  | some o =>
    cases hw : noticeWanted s with
    | false => rw [offerNotice_of_not_wanted (s := s) hw, offerNotice_of_not_wanted (by exact hw)]
    | true =>
      rw [offerNotice_of_wanted (s := s) ho hw, offerNotice_of_wanted (by exact ho) (by exact hw)]
      exact place_settle ..

theorem slotEvent_settle (n : Fin 32) (s : State) (x : Option Nat) :
    slotEvent n (s.setSettle x) = (slotEvent n s).setSettle x := by
  cases h : s.slots[n].notify with
  | false => rw [slotEvent_of_clear (s := s) h, slotEvent_of_clear (by exact h)]
  | true =>
    rw [slotEvent_of_set (s := s) h, slotEvent_of_set (by exact h)]
    exact offerNotice_settle (noted (slotBit n) s) x

theorem expireOn_settle (n : Fin 32) (p : Port) (s : State) (x : Option Nat) :
    expireOn n p (s.setSettle x) = (expireOn n p s).setSettle x := by
  by_cases h : s.relay = .relay ∧ (s.queues.get p).room = true ∧ entryOfSlot n (s.queues.get p).entries = none
  · rw [expireOn, expireOn, if_pos h, if_pos (by exact h)]
    exact place_settle ..
  · rw [expireOn, expireOn, if_neg h, if_neg (by exact h)]
    exact slotEvent_settle n (s.setSlot n { s.slots[n] with count := satInc s.slots[n].count }) x

theorem foldl_expireOn_settle (n : Fin 32) (ps : List Port) (s : State) (x : Option Nat) :
    ps.foldl (fun t p => expireOn n p t) (s.setSettle x) = (ps.foldl (fun t p => expireOn n p t) s).setSettle x := by
  induction ps generalizing s with
  | nil => rfl
  | cons p ps ih => rw [List.foldl_cons, List.foldl_cons, expireOn_settle, ih]

theorem fireBeacon_settle (n : Fin 32) (s : State) (x : Option Nat) :
    fireBeacon n (s.setSettle x) = (fireBeacon n s).setSettle x := by
  unfold fireBeacon
  rw [show (s.setSettle x).slots[n].body = s.slots[n].body from rfl]
  generalize s.slots[n].body = body
  cases body with
  | beacon y => exact foldl_expireOn_settle n y.ports.list s x
  | _ => rfl

/-- R27, R131: where the settle timer only counts, the beacons' expiries and its count may be taken in either order. -/
theorem fireBeacons_settle (c : Nat) (due : List (Fin 32)) (s : State) (x : Option Nat) :
    fireBeacons c due (s.setSettle x) = (fireBeacons c due s).setSettle x := by
  unfold fireBeacons
  generalize orderByRank (Config.beaconRank c) due = ns
  induction ns generalizing s with
  | nil => rfl
  | cons n ns ih => rw [List.foldl_cons, List.foldl_cons, fireBeacon_settle, ih]

/-! ### What a waiting restart names -/

theorem restartDue_expireOn (n : Fin 32) (p : Port) (s : State) : restartDue (expireOn n p s) = restartDue s := by
  unfold expireOn lateExpiry
  split
  · exact restartDue_place rfl
  · exact restartDue_slotEvent ..

/-- R168, R123: the reply a waiting restart names is not over age. -/
def NamedYoung (s : State) : Prop :=
  ∀ p, ∀ x ∈ (s.queues.get p).entries, x.overAge s.timestamp s.settings.ageLimit = true → x.body.isNamed = false

theorem namedYoung_place {b : EntryBody} (hb : b.isNamed = false) (h : NamedYoung s) : NamedYoung (place p b s) := by
  unfold place
  split
  · intro q x hx hold
    by_cases hq : p = q
    · subst hq
      simp only [State.setQueue_queues, PerPort.get_set_self, List.mem_append, List.mem_singleton] at hx
      obtain hx | rfl := hx
      · exact h p x hx hold
      · exact hb
    · simp only [State.setQueue_queues, PerPort.get_set_of_ne _ _ hq] at hx
      exact h q x hx hold
  · exact h

theorem namedYoung_offerNotice (h : NamedYoung s) : NamedYoung (offerNotice s) := by
  obtain same | ⟨o, -, placed⟩ := offerNotice_cases s
  · rwa [same]
  · rw [placed]
    exact namedYoung_place rfl h

theorem namedYoung_slotEvent (h : NamedYoung s) : NamedYoung (slotEvent n s) := by
  unfold slotEvent
  split
  · exact namedYoung_offerNotice h
  · exact h

theorem namedYoung_expireOn (h : NamedYoung s) : NamedYoung (expireOn n p s) := by
  unfold expireOn lateExpiry
  split
  · exact namedYoung_place rfl h
  · exact namedYoung_slotEvent h

/-- R131, R168: the expiries of a tick place no reply, so that they neither begin a restart nor bring its reply over age. -/
def RestartStands (s t : State) : Prop := restartDue t = restartDue s ∧ (NamedYoung s → NamedYoung t)

theorem RestartStands.foldl {α : Type} {f : State → α → State} (h : ∀ s x, RestartStands s (f s x)) (l : List α) (s : State) :
    RestartStands s (l.foldl f s) := by
  induction l generalizing s with
  | nil => exact ⟨rfl, id⟩
  | cons x l ih =>
    obtain ⟨hdue, hyoung⟩ := h s x
    obtain ⟨hdue', hyoung'⟩ := ih (f s x)
    exact ⟨hdue'.trans hdue, fun hs => hyoung' (hyoung hs)⟩

theorem restartStands_fireBeacon (n : Fin 32) (s : State) : RestartStands s (fireBeacon n s) := by
  unfold fireBeacon
  split
  · exact RestartStands.foldl (fun t p => ⟨restartDue_expireOn n p t, namedYoung_expireOn⟩) _ s
  · exact ⟨rfl, id⟩

theorem restartStands_fireBeacons (c : Nat) (due : List (Fin 32)) (s : State) : RestartStands s (fireBeacons c due s) :=
  RestartStands.foldl (fun t n => restartStands_fireBeacon n t) _ s

theorem any_isNamed_filter {f : QEntry → Bool} {l : List QEntry} (h : ∀ x ∈ l, f x = true → x.body.isNamed = false) :
    (l.filter (fun x => !f x)).any (·.body.isNamed) = l.any (·.body.isNamed) := by
  rw [List.any_filter, Bool.eq_iff_iff]
  simp only [List.any_eq_true, Bool.and_eq_true, Bool.not_eq_true']
  refine exists_congr fun x => and_congr_right fun hx => and_iff_right_of_imp fun hnamed => ?_
  by_contra hold
  exact absurd (h x hx (by simpa using hold)) (by simp [hnamed])

theorem restartDue_ageOutQueue
    (h : ∀ x ∈ (s.queues.get p).entries, x.overAge s.timestamp s.settings.ageLimit = true → x.body.isNamed = false) :
    restartDue (ageOutQueue p s) = restartDue s := by
  have kept := any_isNamed_filter h
  cases p with
  | a => exact congrArg (fun y => s.restartPending && !(y || s.queues.b.entries.any (·.body.isNamed)
      || s.paths.ab.tx.isNamed || s.paths.ba.tx.isNamed)) kept
  | b => exact congrArg (fun y => s.restartPending && !(s.queues.a.entries.any (·.body.isNamed) || y
      || s.paths.ab.tx.isNamed || s.paths.ba.tx.isNamed)) kept

theorem restartDue_agedOut (h : NamedYoung s) : restartDue (agedOut s) = restartDue s := by
  have both : restartDue (ageOutQueue .b (ageOutQueue .a s)) = restartDue s :=
    (restartDue_ageOutQueue (p := .b) (s := ageOutQueue .a s) (h .b)).trans (restartDue_ageOutQueue (h .a))
  rw [← ageOutBoth_eq_agedOut, ageOutBoth]
  split
  · exact (restartDue_offerNotice _).trans both
  · exact both

end

/-! ## The 1 ms tick (R20, R22, R27, R101, R130) -/

section
variable {n : Fin 32} {p : Port} {s : State}

theorem tickCoolDown_of_le (h : ∀ k, (s.ports.get p).coolDown = some k → 2 ≤ k) :
    tickCoolDown p s
      = s.setPort p { s.ports.get p with coolDown := (s.ports.get p).coolDown.map (fun k => k - 1) } := by
  unfold tickCoolDown
  split
  · rename_i hk
    rw [hk, Option.map_none, ← hk, State.setPort_self]
  · rename_i k hk
    have := h k hk
    rw [if_neg (by omega), hk]
    rfl

theorem tickSettle_of_le (h : ∀ k, s.settle = some k → 2 ≤ k) : tickSettle s = s.setSettle (s.settle.map (fun k => k - 1)) := by
  unfold tickSettle
  split
  · rename_i hk
    rw [hk, Option.map_none, ← hk]
    rfl
  · rename_i k hk
    have := h k hk
    rw [if_neg (by omega), hk]
    rfl

/-- R20, R22: a port after a 1 ms tick at which its cool-down does not run out. -/
def countedPort (x : PortBlock) : PortBlock :=
  { x with bucket := x.bucket - 1, coolDown := x.coolDown.map (fun k => k - 1) }

/-- R20, R22, R27, R101, R130: what a 1 ms tick counts where neither a cool-down nor the settle timer runs out. -/
def countedTick (s : State) : State := { s with
  ports := ⟨countedPort s.ports.a, countedPort s.ports.b⟩
  settle := s.settle.map (fun k => k - 1)
  slots := mapVec (fun x => countBeacon (ageSlot x)) s.slots }

theorem countedTick_ports (p : Port) (s : State) : (countedTick s).ports.get p = countedPort (s.ports.get p) := by
  cases p <;> rfl

theorem tickCoolDown_countTick (h : ∀ p k, (s.ports.get p).coolDown = some k → 2 ≤ k) :
    tickCoolDown .b (tickCoolDown .a (countTick s)) = (countedTick s).setSettle s.settle := by
  rw [tickCoolDown_of_le (p := .a) (s := countTick s) (h .a), tickCoolDown_of_le (p := .b) (by exact h .b)]
  rfl

/-- R34: a tick at which only beacon timers run out counts, ages out and fires, in one order or the other [log 12]. -/
theorem tick1ms_counts (hcool : ∀ p k, (s.ports.get p).coolDown = some k → 2 ≤ k)
    (hsettle : ∀ k, s.settle = some k → 2 ≤ k) :
    ∃ k, let u := { countedTick s with freeCount := k }
      let fire := fireBeacons s.freeCount (allSlots.filter (fun n => beaconDue s.slots[n]))
      tick1ms s = fire (agedOut u) ∨ tick1ms s = agedOut (fire u) := by
  unfold tick1ms
  simp only [tickCoolDown_countTick hcool, ageOutBoth_eq_agedOut]
  split
  · rename_i none_due
    rw [none_due, tickSettle_of_le (s := (countedTick s).setSettle s.settle) hsettle]
    exact ⟨s.freeCount, .inl rfl⟩
  · refine ⟨s.freeCount + 1, ?_⟩
    generalize allSlots.filter (fun n => beaconDue s.slots[n]) = due
    let v := { (countedTick s).setSettle s.settle with freeCount := s.freeCount + 1 }
    have stands : (fireBeacons s.freeCount due v).settle = s.settle := by rw [fireBeacons_frame]; rfl
    split
    · right
      refine congrArg agedOut ((tickSettle_of_le (s := fireBeacons s.freeCount due v) (by rw [stands]; exact hsettle)).trans ?_)
      rw [stands, ← fireBeacons_settle]
      rfl
    · left
      exact congrArg (fun t => fireBeacons s.freeCount due (agedOut t)) (tickSettle_of_le (s := v) hsettle)

/-! ### The slots at a tick -/

theorem countBeacon_of_beacon {x : Slot} {y : BeaconSlot} (h : x.body = .beacon y) : countBeacon x = { x with
    body := .beacon { y with timer := y.timer.map (fun k => if k ≤ 1 then y.interval.toNat else k - 1) } } := by
  simp only [countBeacon, startBeacon, h]
  split
  · rename_i hk
    rw [hk, Option.map_none, ← hk, ← h]
  · rename_i k hk
    rw [hk, Option.map_some]
    split <;> rfl

theorem countBeacon_of_not_beacon {x : Slot} (h : ∀ y, x.body ≠ .beacon y) : countBeacon x = x := by
  unfold countBeacon
  split
  · exact absurd ‹_› (h _)
  · rfl

theorem ageSlot_of_answer {x : Slot} {y : AnswerSlot} (h : x.body = .answer y) (hy : y.content ≠ .none) :
    ageSlot x = { x with body := .answer { y with age := satInc y.age } } := by
  simp only [ageSlot, h, if_neg hy]

theorem ageSlot_of_no_payload {x : Slot} (h : ∀ y, x.body = .answer y → y.content = .none) : ageSlot x = x := by
  unfold ageSlot
  split
  · exact if_pos (h _ ‹_›)
  · rfl

theorem ageSlot_of_beacon {x : Slot} {y : BeaconSlot} (h : x.body = .beacon y) : ageSlot x = x :=
  ageSlot_of_no_payload fun _ hx => by rw [h] at hx; cases hx

theorem beaconDue_iff {x : Slot} : beaconDue x = true ↔ ∃ k, x.beaconTimer = some k ∧ k ≤ 1 := by
  unfold beaconDue
  split <;> simp [*]

/-- R130: a timer that runs out at a tick starts its next full interval in it. -/
theorem atFullInterval_of_beaconDue {x : Slot} (h : beaconDue x = true) : (countBeacon (ageSlot x)).atFullInterval := by
  obtain ⟨k, hk, hlast⟩ := beaconDue_iff.mp h
  unfold Slot.beaconTimer at hk
  split at hk
  · rename_i y hy
    rw [ageSlot_of_beacon hy, countBeacon_of_beacon hy, hk, Option.map_some, if_pos hlast]
    exact ⟨_, rfl, rfl⟩
  · cases hk

theorem countedTick_slots (n : Fin 32) (s : State) : (countedTick s).slots[n] = countBeacon (ageSlot s.slots[n]) :=
  getElem_mapVec ..

theorem exec_tick1ms_of_due (hreset : s.resetPin = false) (h : s.due.one = true) :
    exec .tick1ms s = .next (settleRestart (tick1ms { s with due := { s.due with one := false } })) := by
  refine (if_neg (by rw [hreset]; decide)).trans ?_
  rw [takeTick1_of_due h]

theorem exec_tick1ms_of_not_due (h : s.due.one = false) : exec .tick1ms s = .next s := by
  refine (congrArg _ (congrArg _ (takeTick1_of_not_due h))).trans (ite_self _)

/-! ### A timer's last tick -/

/-- R34: what holds before the settle timer counts and after it holds after the tick. -/
theorem tick1ms_stages {P Q : State → Prop} (start : P (tickCoolDown .b (tickCoolDown .a (countTick s))))
    (chosen : ∀ t k, P t → P { t with freeCount := k }) (fire : ∀ c due t, P t → P (fireBeacons c due t))
    (settle : ∀ t, P t → Q (tickSettle t)) (age : ∀ t, Q t → Q (agedOut t))
    (fire' : ∀ c due t, Q t → Q (fireBeacons c due t)) :
    Q (tick1ms s) := by
  unfold tick1ms
  simp only [ageOutBoth_eq_agedOut]
  split
  · exact age _ (settle _ start)
  · split
    · exact age _ (settle _ (fire _ _ _ (chosen _ _ start)))
    · exact fire' _ _ _ (age _ (settle _ (chosen _ _ start)))

theorem tickCoolDown_ports_of_ne {q : Port} (h : q ≠ p) : (tickCoolDown q s).ports.get p = s.ports.get p := by
  unfold tickCoolDown coolDownEnd
  split
  · rfl
  · split
    · rw [addEvent_frame]
      exact PerPort.get_set_of_ne _ _ h
    · exact PerPort.get_set_of_ne _ _ h

theorem tickCoolDown_of_last (h : (s.ports.get p).coolDown = some 1) : (tickCoolDown p s).ports.get p = { s.ports.get p with
    state := if s.signal.get p then .syncing else .down, syncIdle := 0, coolDown := none } := by
  simp only [tickCoolDown, h, Nat.le_refl, if_true, coolDownEnd]
  rw [addEvent_frame]
  exact PerPort.get_set_self ..

theorem countTick_ports (p : Port) (s : State) : (countTick s).ports.get p = drainPort (s.ports.get p) := by
  cases p <;> rfl

/-- R22: a cool-down at its last tick ends, whatever the other port does. -/
theorem tickCoolDown_both_of_last (h : (s.ports.get p).coolDown = some 1) :
    (tickCoolDown .b (tickCoolDown .a (countTick s))).ports.get p = {
      state := if s.signal.get p then .syncing else .down
      syncIdle := 0
      bucket := (s.ports.get p).bucket - 1
      coolDown := none } := by
  have drained : ((countTick s).ports.get p).coolDown = some 1 := by rw [countTick_ports]; exact h
  cases p with
  | a =>
    rw [tickCoolDown_ports_of_ne (by decide), tickCoolDown_of_last drained]
    rfl
  | b =>
    have stands : (tickCoolDown .a (countTick s)).ports.get .b = (countTick s).ports.get .b :=
      tickCoolDown_ports_of_ne (by decide)
    rw [tickCoolDown_of_last (by rw [stands]; exact drained), stands, tickCoolDown_frame]
    rfl

theorem tickSettle_of_last (h : s.settle = some 1) :
    (tickSettle s).settle = none ∧ (tickSettle s).relay = if s.latch then .fallback else .relay := by
  simp only [tickSettle, h, Nat.le_refl, if_true, settleExpiry]
  split
  · rw [enterFallback_frame]
    exact ⟨rfl, rfl⟩
  · rw [enterRelay_frame]
    exact ⟨rfl, rfl⟩

theorem startStoppedBeacon_of_running {x : Slot} {y : BeaconSlot} {k : Nat} (h : x.body = .beacon y) (hk : y.timer = some k) :
    startStoppedBeacon x = x := by simp [startStoppedBeacon, h, hk]

/-- R130: a running timer keeps its phase at the entry to RELAY. -/
theorem tickSettle_slots_of_running {y : BeaconSlot} {k : Nat} (h : s.slots[n].body = .beacon y) (hk : y.timer = some k) :
    (tickSettle s).slots[n].body = .beacon y := by
  unfold tickSettle settleExpiry
  split
  · exact h
  · split
    · split
      · rw [enterFallback_frame]
        exact h
      · rw [enterRelay_frame, getElem_mapVec, startStoppedBeacon_of_running h hk]
        exact h
    · exact h

theorem tick1ms_ports_of_last (h : (s.ports.get p).coolDown = some 1) : (tick1ms s).ports.get p = {
    state := if s.signal.get p then .syncing else .down
    syncIdle := 0
    bucket := (s.ports.get p).bucket - 1
    coolDown := none } := by
  let P (t : State) : Prop := t.ports.get p = {
    state := if s.signal.get p then .syncing else .down
    syncIdle := 0
    bucket := (s.ports.get p).bucket - 1
    coolDown := none }
  have fires (c : Nat) (due : List (Fin 32)) (t : State) (ht : P t) : P (fireBeacons c due t) := by rwa [fireBeacons_frame]
  exact tick1ms_stages (P := P) (Q := P) (tickCoolDown_both_of_last h) (fun _ _ ht => ht) fires
    (fun t ht => by rwa [tickSettle_frame]) (fun t ht => by rwa [agedOut_frame]) fires

theorem tick1ms_settle_of_last (h : s.settle = some 1) :
    (tick1ms s).settle = none ∧ (tick1ms s).relay = if s.latch then .fallback else .relay := by
  refine tick1ms_stages (P := fun t => t.settle = some 1 ∧ t.latch = s.latch)
    (Q := fun t => t.settle = none ∧ t.relay = if s.latch then .fallback else .relay) ?_ (fun _ _ ht => ht)
    (fun c due t ht => by rwa [fireBeacons_frame]) (fun t ht => ?_) (fun t ht => by rwa [agedOut_frame])
    (fun c due t ht => by rwa [fireBeacons_frame])
  · rw [tickCoolDown_frame, tickCoolDown_frame]
    exact ⟨h, rfl⟩
  · obtain ⟨hsettle, hlatch⟩ := ht
    rw [← hlatch]
    exact tickSettle_of_last hsettle

theorem tick1ms_slots_of_last {y : BeaconSlot} (h : s.slots[n].body = .beacon y) (hlast : y.timer = some 1) :
    (tick1ms s).slots[n].body = .beacon { y with timer := some y.interval.toNat } := by
  let P (t : State) : Prop := t.slots[n].body = .beacon { y with timer := some y.interval.toNat }
  have fires (c : Nat) (due : List (Fin 32)) (t : State) (ht : P t) : P (fireBeacons c due t) := (fireBeacons_body ..).trans ht
  refine tick1ms_stages (P := P) (Q := P) ?_ (fun _ _ ht => ht) fires (fun t ht => tickSettle_slots_of_running ht rfl)
    (fun t ht => by rwa [agedOut_frame]) fires
  have counted : (countTick s).slots[n] = countBeacon (ageSlot s.slots[n]) := getElem_mapVec ..
  simp only [P]
  rw [tickCoolDown_frame, tickCoolDown_frame, counted, ageSlot_of_beacon h, countBeacon_of_beacon h, hlast]
  rfl

/-- R131: the expiries of a tick, as commands of their own, at any state that has the slots as the tick counted them. -/
theorem ran_beaconExpiry_of_counted {t : State} (c : Nat) (hreset : t.resetPin = false)
    (hslots : ∀ n : Fin 32, t.slots[n] = (countedTick s).slots[n]) :
    ran ((orderByRank (Config.beaconRank c) (allSlots.filter (fun n => beaconDue s.slots[n]))).map .beaconExpiry) t
      = fireBeacons c (allSlots.filter (fun n => beaconDue s.slots[n])) t := by
  refine ran_beaconExpiry _ t hreset fun n hn => ?_
  obtain ⟨-, due⟩ := List.mem_filter.mp ((orderByRank_perm ..).mem_iff.mp hn)
  rw [hslots, countedTick_slots]
  exact atFullInterval_of_beaconDue due

/-- R168: a tick at which the named reply is not over age begins no restart. -/
theorem restartDue_of_counts {c : Nat} {due : List (Fin 32)} (hdue : restartDue s = false) (hyoung : NamedYoung s) :
    restartDue (fireBeacons c due (agedOut s)) = false ∧ restartDue (agedOut (fireBeacons c due s)) = false := by
  obtain ⟨fired, -⟩ := restartStands_fireBeacons c due (agedOut s)
  obtain ⟨fired', young⟩ := restartStands_fireBeacons c due s
  exact ⟨fired.trans ((restartDue_agedOut hyoung).trans hdue), (restartDue_agedOut (young hyoung)).trans (fired'.trans hdue)⟩

end

/-- Settles O34: the microsecond, what a tick counts with the beacons it fires in either order, and each timer's last tick. -/
theorem timeBaseCounts : Obligations.TimeBaseCounts := by
  refine ⟨fun s hreset hdue => ?microsecond, fun s t => ⟨fun h => ?one, fun hone h => ?ten, fun hone hten h => ?hundred⟩,
    fun s h => exec_tick1ms_of_not_due h, fun s hreset hdue hrestart hcool hsettle hyoung => ?counts,
    fun p s hreset hdue hpending hlast => ?coolDown, fun s hreset hdue hpending hjoining hlast => ?settle,
    fun n y s hreset hdue hpending hbody hlast => ?beacon⟩
  case microsecond =>
    intro d
    exact (exec_advance_of_released hreset).trans (by rw [advanceTime_of_none_due hdue]; rfl)
  case one =>
    obtain ⟨-, hreset⟩ := takeTick1_clock h
    exact fun ht => exec_advance_of_taken (take := takeTick1) rfl ht hreset (advanceTime_takeTick1 h)
  case ten =>
    obtain ⟨-, hreset⟩ := takeTick10_clock h
    exact fun ht => exec_advance_of_taken (take := takeTick10) rfl ht hreset (advanceTime_takeTick10 hone h)
  case hundred =>
    obtain ⟨-, hreset⟩ := takeTick100_clock h
    exact fun ht => exec_advance_of_taken (take := takeTick100) rfl ht hreset (advanceTime_takeTick100 hone hten h)
  case counts =>
    let v : State := { s with due := { s.due with one := false } }
    obtain ⟨k, hfires⟩ := tick1ms_counts (s := v) hcool hsettle
    let u : State := { countedTick v with freeCount := k }
    let due := allSlots.filter (fun n => beaconDue v.slots[n])
    let fired := orderByRank (Config.beaconRank v.freeCount) due
    obtain ⟨firesLast, firesFirst⟩ := restartDue_of_counts (s := u) (c := v.freeCount) (due := due) hrestart
      fun p x hx hold => hyoung p x hx (of_decide_eq_true hold)
    have ranFirst : ran (fired.map .beaconExpiry) u = fireBeacons v.freeCount due u :=
      ran_beaconExpiry_of_counted (s := v) _ hreset fun _ => rfl
    have ranLast : ran (fired.map .beaconExpiry) (agedOut u) = fireBeacons v.freeCount due (agedOut u) :=
      ran_beaconExpiry_of_counted (s := v) _ (by rw [agedOut_frame]; exact hreset) (by rw [agedOut_frame]; exact fun _ => rfl)
    refine ⟨u, fired, ?_, (orderByRank_perm ..).nodup_iff.mpr (nodup_allSlots.filter _), fun n => ?_, rfl,
      fun p => countedTick_ports p v, rfl, fun n => ?_⟩
    · rw [exec_tick1ms_of_due hreset hdue, ranFirst, ranLast]
      refine hfires.imp (fun h => ?_) (fun h => ?_)
      · rw [h, settleRestart_of_not_due firesLast]
      · rw [h, settleRestart_of_not_due firesFirst]
    · refine (orderByRank_perm ..).mem_iff.trans (List.mem_filter.trans ?_)
      exact (and_iff_right (mem_allSlots n)).trans beaconDue_iff
    · have slot : u.slots[n] = countBeacon (ageSlot s.slots[n]) := countedTick_slots n v
      rw [slot]
      refine ⟨fun y hy => ?_, fun y hy hpayload => ?_, fun hbeacon hanswer => ?_⟩
      · rw [ageSlot_of_beacon hy, countBeacon_of_beacon hy]
      · rw [ageSlot_of_answer hy hpayload, countBeacon_of_not_beacon (by nofun)]
      · rw [ageSlot_of_no_payload hanswer, countBeacon_of_not_beacon hbeacon]
  all_goals
    have pending : restartDue (tick1ms { s with due := { s.due with one := false } }) = false := by
      obtain ⟨-, -, same⟩ := sameClock_tick1ms { s with due := { s.due with one := false } }
      exact restartDue_of_not_pending (same.trans hpending)
    refine ⟨_, (exec_tick1ms_of_due hreset hdue).trans (congrArg _ (settleRestart_of_not_due pending)), ?_⟩
  case coolDown => exact tick1ms_ports_of_last hlast
  case settle => exact tick1ms_settle_of_last hlast
  case beacon => exact tick1ms_slots_of_last hbody hlast

end Sys2Proof.Machine
end

section
/-! SUPPORT and proof of a decision's standing to the end of its frame (R40, R52): every operation but the arrival port's own byte times
leaves the hold, the record and the buffer of a path as they were, or abandons them with the part out of the line. -/

namespace Sys2Proof.Machine

/-! ## What an operation keeps of a path's decision -/

/-- R35, R40: the hold, the decision record and the commit buffer of the frame now arriving on a port. -/
abbrev State.arriving (s : State) (p : Port) : Option InFlight := (s.paths.get (dirIn p)).flight

/-- R26, R28: a part in BYPASS with a port that is not SYNCED, so that no join can follow. -/
def OffLine (s : State) : Prop := s.relay = .bypass ∧ ∃ q, (s.ports.get q).state ≠ .synced

/-- R40, R52: the decision of the frame now arriving on p is the one that stood, or it is abandoned and the part out of the line. -/
def DecisionStands (p : Port) (s t : State) : Prop := t.arriving p = s.arriving p ∨ OffLine t ∧ t.arriving p = none

/-- What an operation keeps that can follow others in one event: the decision, and a part out of the line stays there; a part in the line
stays in it or leaves it with a port that is not SYNCED. -/
structure PathKept (p : Port) (s t : State) : Prop where
  decision : DecisionStands p s t
  offLine  : OffLine s → OffLine t
  inLine   : s.relay ≠ .bypass → t.relay ≠ .bypass ∨ OffLine t

section
variable {p : Port} {s t u : State}

theorem DecisionStands.trans (h : DecisionStands p s t) (k : PathKept p t u) : DecisionStands p s u := by
  rcases k.decision with hk | hk
  · rcases h with hst | ⟨hoff, hnone⟩
    · exact .inl (hk.trans hst)
    · exact .inr ⟨k.offLine hoff, hk.trans hnone⟩
  · exact .inr hk

namespace PathKept

theorem trans (h : PathKept p s t) (k : PathKept p t u) : PathKept p s u where
  decision := h.decision.trans k
  offLine hs := k.offLine (h.offLine hs)
  inLine hs := (h.inLine hs).elim k.inLine fun ht => .inr (k.offLine ht)

theorem of_same (hrelay : t.relay = s.relay) (hports : t.ports = s.ports) (hdecision : t.arriving p = s.arriving p) :
    PathKept p s t where
  decision := .inl hdecision
  offLine := by simp only [OffLine, hrelay, hports, imp_self]
  inLine hs := .inl (hrelay ▸ hs)

theorem refl (p : Port) (s : State) : PathKept p s s := of_same rfl rfl rfl

/-- An operation that touches neither the paths nor the relay state nor the ports. -/
theorem of_apart (h : t = { t with paths := s.paths, relay := s.relay, ports := s.ports }) : PathKept p s t := by
  rw [h]
  exact of_same rfl rfl rfl

/-- An operation that moves neither a port nor the relay state, the decision as it was. -/
theorem of_lineKept (h : LineKept s t) (hdecision : t.arriving p = s.arriving p) : PathKept p s t where
  decision := .inl hdecision
  offLine := by simp only [OffLine, h.relay, h.state, imp_self]
  inLine hs := .inl (h.relay ▸ hs)

/-- The relay state moves between JOINING, RELAY and FALLBACK. -/
theorem of_relay {r : RelayState} (h : r = .bypass ↔ s.relay = .bypass) : PathKept p s { s with relay := r } where
  decision := .inl rfl
  offLine hs := ⟨h.mpr hs.1, hs.2⟩
  inLine hs := .inl (mt h.mp hs)

theorem foldl {α : Type} {f : State → α → State} (hf : ∀ s a, PathKept p s (f s a)) (l : List α) (s : State) :
    PathKept p s (l.foldl f s) := by
  induction l generalizing s with
  | nil => exact refl p s
  | cons a l ih => exact (hf s a).trans (ih _)

/-- A part left out of the line, its decision abandoned or as it was. -/
theorem of_offLine (hoff : OffLine t) (h : t.arriving p = s.arriving p ∨ t.arriving p = none) : PathKept p s t where
  decision := h.imp_right fun hnone => ⟨hoff, hnone⟩
  offLine _ := hoff
  inLine _ := .inr hoff

end PathKept

/-! ## The updates of one place -/

theorem pathKept_setPath {d : Dir} {w : RelayPath} (h : w.flight = (s.paths.get d).flight) : PathKept p s (s.setPath d w) :=
  .of_same rfl rfl (PerDir.map_get_set (fun x : RelayPath => x.flight) s.paths h _)

theorem pathKept_setStore (d : Dir) (fs : List StoredFrame) : PathKept p s (s.setStore d fs) := pathKept_setPath rfl

/-- What another port's frame leaves in its own path is nothing to this one. -/
theorem pathKept_setPath_of_ne {q : Port} (hq : q ≠ p) (w : RelayPath) : PathKept p s (s.setPath (dirIn q) w) :=
  .of_same rfl rfl (congrArg RelayPath.flight (PerDir.get_set_of_ne _ _ (mt dirIn_injective hq)))

theorem pathKept_setPort {q : Port} {v : PortBlock} (h : v.state ≠ .synced ∨ v.state = (s.ports.get q).state) :
    PathKept p s (s.setPort q v) where
  decision := .inl rfl
  offLine hs := by
    obtain ⟨hrelay, r, hr⟩ := hs
    refine ⟨hrelay, r, ?_⟩
    rw [State.setPort_ports, PerPort.get_set]
    split
    · subst r
      exact h.elim id fun he => he ▸ hr
    · exact hr
  inLine hs := .inl hs

/-! ## Queues, events, slots and the owner -/

theorem pathKept_place (q : Port) (b : EntryBody) (s : State) : PathKept p s (place q b s) := by
  rw [place_frame]
  exact .of_apart rfl

theorem pathKept_offerNotice (s : State) : PathKept p s (offerNotice s) := by
  rw [offerNotice_frame]
  exact .of_apart rfl

theorem pathKept_addEvent (bit : BitVec 34) (s : State) : PathKept p s (addEvent bit s) := by
  rw [addEvent_frame]
  exact .of_apart rfl

theorem pathKept_lapse (n : Fin 32) (s : State) : PathKept p s (lapse n s) := by
  rw [lapse_frame]
  exact .of_apart rfl

theorem pathKept_clearOwner (s : State) : PathKept p s (clearOwner s) := by
  rw [clearOwner_frame]
  exact .of_apart rfl

/-- R29: the latch takes RELAY to FALLBACK. -/
theorem pathKept_setLatch (s : State) : PathKept p s (setLatch s) := by
  unfold setLatch
  split
  · rename_i hr
    rw [relayToFallback_frame]
    refine .trans (.of_relay (r := .fallback) ?_) (.of_apart rfl)
    rw [hr]
    exact ⟨nofun, nofun⟩
  · exact .of_apart rfl

theorem pathKept_expireLease (o : Owner) (s : State) : PathKept p s (expireLease o s) := by
  unfold expireLease
  split
  · exact pathKept_clearOwner s
  · exact (pathKept_clearOwner s).trans (pathKept_setLatch _)

theorem pathKept_grant (e : Envelope) (lease : Half) (policy : Policy) (s : State) :
    PathKept p s (grant e lease policy s) :=
  .trans (t := { s with relay := (clearLatch s).relay }) (.of_relay (clearLatch_relay s).1) (.of_apart rfl)

/-! ## A port's way out of the line (R12, R28) -/

theorem closeFlight_arriving_of_ne {q : Port} (hq : q ≠ p) (cls : EndClass) (s : State) :
    (closeFlight q cls s).arriving p = s.arriving p := by
  have hd : dirIn q ≠ dirIn p := mt dirIn_injective hq
  have path (w : RelayPath) (u : State) : ((u.setPath (dirIn q) w).paths.get (dirIn p)) = u.paths.get (dirIn p) :=
    PerDir.get_set_of_ne _ _ hd
  have ended (f : InFlight) : (endVerdict q cls f s).paths.get (dirIn p) = s.paths.get (dirIn p) := by
    unfold endVerdict
    split
    · rw [endCommit_paths]
      exact path _ s
    · rw [endCommit_paths]
    · split
      · rw [pollEnd_frame]
      · rfl
    all_goals rfl
  unfold closeFlight
  split
  · rfl
  · exact congrArg RelayPath.flight ((path _ _).trans (ended _))

theorem pathKept_closeFlight_of_ne {q : Port} (hq : q ≠ p) (cls : EndClass) (s : State) :
    PathKept p s (closeFlight q cls s) := by
  refine .of_same ?_ ?_ (closeFlight_arriving_of_ne hq cls s)
  · rw [closeFlight_frame]
  · rw [closeFlight_frame]

/-- R12: a frame cut off is the port's own. -/
theorem cutFrame_arriving (q : Port) (s : State) :
    (cutFrame q s).arriving p = s.arriving p ∨ (cutFrame q s).arriving p = none := by
  unfold cutFrame
  split
  · exact .inl rfl
  · by_cases hq : q = p
    · subst q
      exact .inr (closeFlight_flight p .aborted s)
    · exact .inl (closeFlight_arriving_of_ne hq .aborted s)

theorem foldl_cutFrame_frame (ps : List Port) (s : State) :
    (ps.foldl (fun t q => cutFrame q t) s).ports = s.ports
    ∧ ((ps.foldl (fun t q => cutFrame q t) s).arriving p = s.arriving p
      ∨ (ps.foldl (fun t q => cutFrame q t) s).arriving p = none) := by
  induction ps generalizing s with
  | nil => exact ⟨rfl, .inl rfl⟩
  | cons q ps ih =>
    obtain ⟨hports, hdecision⟩ := ih (cutFrame q s)
    refine ⟨hports.trans (by rw [cutFrame_frame]), ?_⟩
    rw [List.foldl_cons]
    rcases hdecision with h | h
    · rw [h]
      exact cutFrame_arriving q s
    · exact .inr h

theorem outOfLine_arriving (s : State) : (outOfLine s).arriving p = s.arriving p ∨ (outOfLine s).arriving p = none := by
  by_cases h : s.relay = .bypass
  · rw [outOfLine_of_bypass h]
    exact .inl rfl
  · rw [outOfLine_of_ne_bypass h]
    exact .inr (enterBypass_paths s _).2

/-- R28: with a port out of SYNCED the part is in BYPASS afterwards, where no join can follow. -/
theorem pathKept_leaveSynced (ps : List Port) (h : ∃ q, (s.ports.get q).state ≠ .synced) :
    PathKept p s (leaveSynced ps s) := by
  obtain ⟨hports, hcut⟩ := foldl_cutFrame_frame (p := p) ps s
  rw [leaveSynced_eq]
  refine .of_offLine ⟨outOfLine_relay _, ?_⟩ ?_
  · rw [outOfLine_frame, hports]
    exact h
  · rcases outOfLine_arriving (p := p) (ps.foldl (fun t q => cutFrame q t) s) with h | h
    · rw [h]
      exact hcut
    · exact .inr h

theorem pathKept_setFault (q : Port) (s : State) : PathKept p s (setFault q s) :=
  (pathKept_setPort (v := faultedPort) (.inl nofun)).trans (.of_apart rfl)

/-- A port in FAULT stays there while the others enter it. -/
theorem setFault_state_ne_synced (q r : Port) (h : r = q ∨ (s.ports.get r).state ≠ .synced) :
    ((setFault q s).ports.get r).state ≠ .synced := by
  change ((s.ports.set q faultedPort).get r).state ≠ .synced
  rw [PerPort.get_set]
  split
  · decide
  · exact h.resolve_left (Ne.symm ‹_›)

theorem foldl_setFault_state_ne_synced (ps : List Port) (r : Port) (h : r ∈ ps ∨ (s.ports.get r).state ≠ .synced) :
    ((ps.foldl (fun t q => setFault q t) s).ports.get r).state ≠ .synced := by
  induction ps generalizing s with
  | nil => exact h.resolve_left List.not_mem_nil
  | cons q ps ih =>
    refine ih ?_
    rcases h with h | h
    · rcases List.mem_cons.mp h with h | h
      · exact .inr (setFault_state_ne_synced q r (.inl h))
      · exact .inl h
    · exact .inr (setFault_state_ne_synced q r (.inr h))

theorem pathKept_enterFault {ps : List Port} (h : ps ≠ []) (s : State) : PathKept p s (enterFault ps s) := by
  obtain ⟨q, hq⟩ := List.exists_mem_of_ne_nil ps h
  refine .trans (.foldl (fun t r => pathKept_setFault r t) ps s) ?_
  refine .trans (pathKept_leaveSynced ps ⟨q, foldl_setFault_state_ne_synced ps q (.inl hq)⟩) ?_
  exact .foldl (fun t r => pathKept_addEvent (portBit r) t) ps _

theorem pathKept_bucketAdd (q : Port) (n : Nat) (s : State) : PathKept p s (bucketAdd q n s) := by
  unfold bucketAdd
  split
  · exact .refl p s
  · split
    · exact pathKept_enterFault (List.cons_ne_nil q []) s
    · exact pathKept_setPort (.inr rfl)

theorem pathKept_compareLimits (s : State) : PathKept p s (compareLimits s) := by
  unfold compareLimits
  split
  · exact .refl p s
  · rename_i h
    exact pathKept_enterFault h s

theorem pathKept_startSync (q : Port) (s : State) : PathKept p s (startSync q s) :=
  .trans (pathKept_setPort (v := { s.ports.get q with state := .syncing, syncIdle := 0 }) (.inl nofun))
    (pathKept_addEvent _ _)

theorem pathKept_releasePort (q : Port) (s : State) : PathKept p s (releasePort q s) := by
  unfold releasePort
  split
  · exact pathKept_startSync q s
  · exact .refl p s

theorem pathKept_coolDownEnd (q : Port) (s : State) : PathKept p s (coolDownEnd q s) := by
  refine .trans (pathKept_setPort (.inl ?_)) (pathKept_addEvent _ _)
  dsimp only
  split <;> nofun

theorem pathKept_loseSignal (q : Port) (s : State) : PathKept p s (loseSignal q s) := by
  have down := pathKept_setPort (p := p) (s := s) (q := q)
    (v := { s.ports.get q with state := .down, syncIdle := 0, coolDown := none }) (.inl nofun)
  unfold loseSignal
  refine .trans ?_ (pathKept_addEvent _ _)
  split
  · refine down.trans (pathKept_leaveSynced [q] ⟨q, ?_⟩)
    rw [State.setPort_ports, PerPort.get_set_self]
    nofun
  · exact down

theorem restartPort_state_ne_synced (signal : Bool) : (restartPort signal).state ≠ .synced := by cases signal <;> decide

/-- R170: the restart abandons every decision and leaves no port SYNCED. -/
theorem pathKept_restartBegin (s : State) : PathKept p s (restartBegin s) := by
  refine .of_offLine ⟨rfl, .a, restartPort_state_ne_synced s.signal.a⟩ (.inr ?_)
  cases p
  · exact (restartPath_idle s.paths.ab).2
  · exact (restartPath_idle s.paths.ba).2

theorem pathKept_settleRestart (s : State) : PathKept p s (settleRestart s) := by
  obtain ⟨-, hs⟩ | ⟨-, hs⟩ := settleRestart_cases s
  · rw [hs]
    exact .refl p s
  · rw [hs]
    exact pathKept_restartBegin s

end

/-! ## Requests (R137) -/

/-- A request that keeps the decision of the frame arriving on p. -/
def Handler.PathSafe (p : Port) (f : Handler) : Prop :=
  (∀ e s, PathKept p s (f.run e s).1) ∧ ∀ a s, PathKept p s (f.after a s)

section
variable {p : Port}

theorem pathKept_noAfter (a : Answer) (s : State) : PathKept p s (noAfter a s) := .refl p s

theorem pathSafe_ident (ps : List Byte) : (identHandler ps).PathSafe p := ⟨fun _ s => .refl p s, pathKept_noAfter⟩

theorem pathSafe_claim (ps : List Byte) : (claimHandler ps).PathSafe p := by
  refine ⟨fun e s => ?_, fun a s => ?_⟩
  · dsimp only [claimHandler, runClaim]
    split
    · exact .refl p s
    · split
      · exact .refl p s
      · split
        · split
          · exact pathKept_grant _ _ _ s
          · exact .refl p s
        · exact pathKept_grant _ _ _ s
  · dsimp only [claimHandler]
    split
    · exact pathKept_offerNotice s
    · exact .refl p s

theorem pathSafe_renounce (ps : List Byte) : (renounceHandler ps).PathSafe p :=
  ⟨fun _ s => pathKept_clearOwner s, pathKept_noAfter⟩

theorem pathSafe_settingsRead (ps : List Byte) : (settingsReadHandler ps).PathSafe p :=
  ⟨fun _ s => .refl p s, pathKept_noAfter⟩

theorem pathSafe_settingsWrite (ps : List Byte) : (settingsWriteHandler ps).PathSafe p := by
  refine ⟨fun e s => ?_, fun a s => ?_⟩
  · dsimp only [settingsWriteHandler, runSettingsWrite]
    split <;> exact .of_apart rfl
  · dsimp only [settingsWriteHandler]
    split
    · exact pathKept_compareLimits s
    · exact .refl p s

theorem pathSafe_entryRead (ps : List Byte) : (entryReadHandler ps).PathSafe p := by
  refine ⟨fun e s => ?_, pathKept_noAfter⟩
  dsimp only [entryReadHandler, runEntryRead]
  repeat' split
  all_goals exact .refl p s

theorem pathSafe_entryWrite (ps : List Byte) : (entryWriteHandler ps).PathSafe p := by
  refine ⟨fun e s => ?_, pathKept_noAfter⟩
  dsimp only [entryWriteHandler, runEntryWrite]
  repeat' split
  all_goals exact .of_apart rfl

theorem pathSafe_entryClear (ps : List Byte) : (entryClearHandler ps).PathSafe p := by
  refine ⟨fun e s => ?_, pathKept_noAfter⟩
  dsimp only [entryClearHandler, runEntryClear]
  repeat' split
  all_goals exact .of_apart rfl

theorem pathSafe_bankCopy (ps : List Byte) : (bankCopyHandler ps).PathSafe p := by
  refine ⟨fun e s => ?_, pathKept_noAfter⟩
  dsimp only [bankCopyHandler, runBankCopy]
  split <;> exact .of_apart rfl

theorem pathSafe_bankSwap (ps : List Byte) : (bankSwapHandler ps).PathSafe p := by
  refine ⟨fun e s => ?_, pathKept_noAfter⟩
  dsimp only [bankSwapHandler, runBankSwap]
  repeat' split
  all_goals exact .of_apart rfl

theorem pathSafe_slotSetup (ps : List Byte) : (slotSetupHandler ps).PathSafe p := by
  refine ⟨fun e s => ?_, pathKept_noAfter⟩
  dsimp only [slotSetupHandler, runSlotSetup]
  repeat' split
  all_goals exact .of_apart rfl

theorem pathSafe_slotLoad (ps : List Byte) : (slotLoadHandler ps).PathSafe p := by
  refine ⟨fun e s => ?_, pathKept_noAfter⟩
  dsimp only [slotLoadHandler, runSlotLoad]
  repeat' split
  all_goals exact .of_apart rfl

theorem pathSafe_slotReadPlain (slot : Byte) : (slotReadPlainHandler slot).PathSafe p := by
  refine ⟨fun e s => ?_, pathKept_noAfter⟩
  dsimp only [slotReadPlainHandler, runReadPlain]
  split <;> exact .refl p s

theorem pathSafe_slotReadHold (slot : Byte) : (slotReadHoldHandler slot).PathSafe p := by
  refine ⟨fun e s => ?_, pathKept_noAfter⟩
  dsimp only [slotReadHoldHandler, runReadHold]
  repeat' split
  all_goals exact .of_apart rfl

theorem pathSafe_slotRelease (ps : List Byte) : (slotReleaseHandler ps).PathSafe p := by
  refine ⟨fun e s => ?_, pathKept_noAfter⟩
  dsimp only [slotReleaseHandler, runSlotRelease]
  repeat' split
  all_goals exact .of_apart rfl

theorem pathSafe_noticeAck (ps : List Byte) : (noticeAckHandler ps).PathSafe p := by
  refine ⟨fun e s => ?_, pathKept_noAfter⟩
  dsimp only [noticeAckHandler, runNoticeAck]
  split <;> exact .of_apart rfl

theorem pathKept_clearCounts (lo hi : Nat) (s : State) : PathKept p s { s with slots := clearCounts lo hi s.slots } :=
  .of_same rfl rfl rfl

/-- R166: a DIR group's high-water mark stands in the path and is no part of a decision. -/
theorem pathKept_clearGroup (g : Group) (s : State) : PathKept p s (clearGroup g s) := by
  cases g with
  | dirAB =>
    exact .trans (t := s.setPath .ab { s.paths.ab with highWater := 0 }) (pathKept_setPath rfl) (.of_apart rfl)
  | dirBA =>
    exact .trans (t := s.setPath .ba { s.paths.ba with highWater := 0 }) (pathKept_setPath rfl) (.of_apart rfl)
  | portA | portB | proxy | agent => exact .of_apart rfl
  | slots0 | slots1 => exact pathKept_clearCounts _ _ s

theorem pathKept_runStats (clear : Bool) (group : Byte) (s : State) : PathKept p s (runStats clear group s).1 := by
  unfold runStats
  split
  · exact .refl p s
  · dsimp only
    split
    · exact pathKept_clearGroup _ s
    · exact .refl p s

theorem pathSafe_statsPlain (group : Byte) : (statsPlainHandler group).PathSafe p :=
  ⟨fun _ s => pathKept_runStats false group s, pathKept_noAfter⟩

theorem pathSafe_statsClear (group : Byte) : (statsClearHandler group).PathSafe p :=
  ⟨fun _ s => pathKept_runStats true group s, pathKept_noAfter⟩

theorem pathSafe_restart (ps : List Byte) : (restartHandler ps).PathSafe p :=
  ⟨fun _ _ => .of_apart rfl, pathKept_noAfter⟩

theorem pathSafe_refused (st : Status) : (refusedHandler st).PathSafe p := ⟨fun _ s => .refl p s, pathKept_noAfter⟩

theorem pathSafe_select {f g : Byte → Handler} (hf : ∀ x, (f x).PathSafe p) (hg : ∀ x, (g x).PathSafe p) (ps : List Byte) :
    (selectHandler f g ps).PathSafe p := by
  unfold selectHandler
  split
  · split
    · exact hf _
    · split
      · exact hg _
      · exact pathSafe_refused _
  · exact pathSafe_refused _

theorem Handler.PathSafe.ite {c : Prop} [Decidable c] {f g : Handler} (hf : f.PathSafe p) (hg : g.PathSafe p) :
    (if c then f else g).PathSafe p := by
  split
  · exact hf
  · exact hg

theorem pathSafe_handlerOf (code : Byte) (ps : List Byte) : (handlerOf code ps).PathSafe p :=
  .ite (pathSafe_ident ps) <|
  .ite (pathSafe_claim ps) <|
  .ite (pathSafe_renounce ps) <|
  .ite (pathSafe_settingsRead ps) <|
  .ite (pathSafe_settingsWrite ps) <|
  .ite (pathSafe_entryRead ps) <|
  .ite (pathSafe_entryWrite ps) <|
  .ite (pathSafe_entryClear ps) <|
  .ite (pathSafe_bankCopy ps) <|
  .ite (pathSafe_bankSwap ps) <|
  .ite (pathSafe_slotSetup ps) <|
  .ite (pathSafe_slotLoad ps) <|
  .ite (pathSafe_select pathSafe_slotReadPlain pathSafe_slotReadHold ps) <|
  .ite (pathSafe_slotRelease ps) <|
  .ite (pathSafe_noticeAck ps) <|
  .ite (pathSafe_select pathSafe_statsPlain pathSafe_statsClear ps) <|
  .ite (pathSafe_restart ps) <|
  pathSafe_refused _

end

/-! ## The agent (R135, R149) -/

section
variable {p : Port} {e : Envelope}

theorem pathKept_recordRequest (reply : Option (List Byte)) (s : State) : PathKept p s (recordRequest e reply s) := by
  unfold recordRequest
  split <;> exact .of_apart rfl

theorem pathKept_countAnswer (st : Status) (s : State) : PathKept p s (countAnswer st s) := by
  unfold countAnswer
  split <;> exact .of_apart rfl

theorem pathKept_finishRequest (code : Byte) (a : Answer) (s : State) : PathKept p s (finishRequest e code a s) := by
  cases a with
  | reply => exact ((pathKept_place _ _ s).trans (pathKept_recordRequest _ _)).trans (pathKept_countAnswer _ _)
  | copyStarted => exact (pathKept_recordRequest _ s).trans (pathKept_countAnswer _ _)

theorem pathKept_duplicate (x : CacheEntry) (s : State) : PathKept p s (duplicate e x s) := by
  have counted : PathKept p s { s.bumpAgent (fun c => { c with duplicates := satInc c.duplicates }) with
    cache := refreshCache x s.cache } := .of_apart rfl
  unfold duplicate
  dsimp only
  split
  · exact counted
  · split
    · exact counted.trans (pathKept_place _ _ _)
    · exact counted.trans (.of_apart rfl)

theorem pathKept_examine {f : Handler} (hf : f.PathSafe p) (code : Byte) (s : State) :
    PathKept p s (examine f code e s) := by
  obtain ⟨hrun, hafter⟩ := hf
  have ran : PathKept p s (runRequest f e s).1 := by
    rcases runRequest_cases f e s with hs | hs
    · rw [hs]
      exact .refl p s
    · rw [hs]
      exact hrun e s
  unfold examine
  split
  · exact pathKept_duplicate _ s
  · split
    · exact (ran.trans (pathKept_finishRequest code _ _)).trans (hafter _ _)
    · exact .of_apart rfl

theorem pathKept_agentRequest {f : Handler} (hf : f.PathSafe p) (code : Byte) (s : State) :
    PathKept p s (agentRequest f code e s) := by
  unfold agentRequest
  split
  · exact .refl p s
  · split
    · exact .of_apart rfl
    · split
      · exact .of_apart rfl
      · exact pathKept_examine hf code s

theorem pathKept_offerAssign (q : Port) (b : Byte) (s : State) : PathKept p s (offerAssign q b s) := by
  unfold offerAssign
  split
  · exact .of_apart rfl
  · split
    · exact pathKept_place _ _ s
    · exact .of_apart rfl

theorem pathKept_assignEnd (q : Port) (n : Byte) (s : State) : PathKept p s (assignEnd q n s) := by
  unfold assignEnd
  split
  · split
    · exact pathKept_offerAssign _ _ s
    · exact .trans (t := { s with ownAddr := n }) (.of_apart rfl) (pathKept_offerAssign _ _ _)
  · exact .of_apart rfl

theorem pathKept_agentEnd (q : Port) (cls : EndClass) (s : State) : PathKept p s (agentEnd q cls s) := by
  have discarded : PathKept p s (s.setInbox q none) := .of_apart rfl
  unfold agentEnd
  split
  · exact .refl p s
  · split
    · split
      · exact discarded.trans (pathKept_agentRequest (pathSafe_handlerOf _ _) _ _)
      · exact discarded.trans (pathKept_assignEnd _ _ _)
      · exact discarded
    · exact discarded

end

/-! ## The other port's byte times -/

theorem pollTest_paths (q : Port) (h : Header) (n : Fin 32) (x : AnswerSlot) (s : State) :
    (pollTest q h n x s).1.paths = s.paths := by
  unfold pollTest reserve
  rw [place_frame]
  repeat' split
  all_goals rfl

theorem entryDecision_paths (q : Port) (h : Header) (i : Fin 64) (e : Entry) (s : State) :
    (entryDecision q h i e s).1.paths = s.paths := by
  unfold entryDecision
  split
  case h_7 =>
    split
    · rename_i n _ _ _ x _
      have tested := pollTest_paths q h n x s
      split
      all_goals
        rename_i hpoll
        rw [hpoll] at tested
        exact tested
    · rfl
  case h_1 | h_2 | h_3 => rfl
  all_goals split <;> rfl

/-- R39: the outcome of a header is found before the path holds it. -/
theorem matchDecision_paths (q : Port) (h : Header) (s : State) : (matchDecision q h s).1.paths = s.paths := by
  unfold matchDecision defaultDecision
  split
  · split <;> rfl
  · exact entryDecision_paths _ _ _ _ _

theorem decideHeader_paths (q : Port) (h : Header) (s : State) : (decideHeader q h s).1.paths = s.paths := by
  have matched : (if s.relay = .relay then matchDecision q h s else (s, plainDecision .forward .none)).1.paths = s.paths := by
    split
    · exact matchDecision_paths q h s
    · rfl
  unfold decideHeader mgmtDecision
  split
  · repeat' split
    all_goals rfl
  · rfl
  · rfl
  · rfl
  all_goals exact matched

section
variable {p q : Port} {s t : State}

/-- R26: a join that follows abandons nothing, and none follows where a decision was abandoned. -/
theorem PathKept.joinCheck (h : PathKept p s t) : DecisionStands p s (joinCheck t) := by
  obtain ⟨-, hs⟩ | ⟨hready, hs⟩ := joinCheck_cases t
  · rw [hs]
    exact h.decision
  · rw [hs]
    refine h.decision.imp_right fun hoff => ?_
    obtain ⟨⟨-, r, hr⟩, -⟩ := hoff
    rw [joinReady_eq r, decide_eq_true_eq] at hready
    exact absurd hready.2.1 hr

theorem pathKept_inboxByte (b : Byte) (payload : Bool) (s : State) : PathKept p s (inboxByte q b payload s) := by
  unfold inboxByte
  split
  · exact .refl p s
  · split <;> exact .of_apart rfl

/-- R17, R26: a port that becomes SYNCED abandons nothing. -/
theorem decisionStands_synchronise (x : LineEvent) (s : State) : DecisionStands p s (synchronise q x s) := by
  unfold synchronise
  split
  · split
    · refine .inl ?_
      unfold portSynced
      rw [addEvent_frame]
      obtain ⟨-, hs⟩ | ⟨-, hs⟩ := joinCheck_cases ((s.setPort q { s.ports.get q with state := .synced, syncIdle := 0 }).setRx q
        { endedRx (s.rx.get q) with gapCount := 2 })
      · rw [hs]
        rfl
      · rw [hs]
        rfl
    · exact .inl rfl
  · exact .inl rfl

section
variable (hq : q ≠ p)
include hq

/-- R13: the frame that ends is the other port's. -/
theorem decisionStands_frameEnd_of_ne (cls : EndClass) (x : LineEvent) (h : PathKept p s t) :
    DecisionStands p s (frameEnd q cls x t) := by
  have counted : PathKept p t (countEnd q cls (t.setRx q (rxAfterEnd t.timestamp x (t.rx.get q)))) := by
    rw [countEnd_eq]
    exact .of_apart rfl
  have closed := (h.trans counted).trans (pathKept_closeFlight_of_ne hq cls _)
  exact ((closed.trans (pathKept_agentEnd q cls _)).trans (pathKept_bucketAdd q _ _)).joinCheck

theorem pathKept_pathByte_of_ne (b : Byte) (payload : Bool) (s : State) : PathKept p s (pathByte q b payload s) := by
  unfold pathByte
  split
  · exact .refl p s
  · dsimp only
    split
    · exact (pathKept_setPath_of_ne hq _).trans (pathKept_setStore _ _)
    · exact pathKept_setPath_of_ne hq _

theorem pathKept_relayByte_of_ne (b : Byte) (payload : Bool) (s : State) : PathKept p s (relayByte q b payload s) :=
  (pathKept_pathByte_of_ne hq b payload s).trans (pathKept_inboxByte b payload _)

theorem pathKept_holdHeader_of_ne (h : Header) (now : Wide) (d : Decision) (s : State) :
    PathKept p s (holdHeader q h now d s) := by
  unfold holdHeader
  dsimp only
  split
  · exact (pathKept_setPath_of_ne hq _).trans (pathKept_setStore _ _)
  · exact pathKept_setPath_of_ne hq _

theorem pathKept_headerReport_of_ne (h : Header) (now : Wide) (s : State) : PathKept p s (headerReport q h now s) := by
  unfold headerReport
  split
  · rename_i hr
    refine .trans ?_ (pathKept_holdHeader_of_ne hq h now _ _)
    exact .of_lineKept (lineKept_decideHeader hr q h) (congrArg (fun w => (w.get (dirIn p)).flight) (decideHeader_paths q h s))
  · unfold undecidedHeader
    split <;> exact .of_apart rfl

theorem decisionStands_headerByte_of_ne (b : Byte) (s : State) : DecisionStands p s (headerByte q b s) := by
  have received (r : Receiver) : PathKept p s (s.setRx q r) := .of_apart rfl
  have counted (t : State) : PathKept p t (lengthAtHeader q t) := by
    unfold lengthAtHeader
    split <;> exact .of_apart rfl
  unfold headerByte
  dsimp only
  split
  · exact (received _).decision
  · split
    · split
      · exact (received _).decision
      · exact ((received _).trans (pathKept_headerReport_of_ne hq _ _ _)).decision
    · split
      · exact decisionStands_frameEnd_of_ne hq _ _ (received _)
      · exact decisionStands_frameEnd_of_ne hq _ _ ((received _).trans (counted _))

theorem decisionStands_bodyByte_of_ne (b : Byte) (s : State) : DecisionStands p s (bodyByte q b s) := by
  have received (r : Receiver) : PathKept p s (s.setRx q r) := .of_apart rfl
  unfold bodyByte
  dsimp only
  split
  · split
    · exact (received _).decision
    · exact ((received _).trans (pathKept_relayByte_of_ne hq _ _ _)).decision
  · exact decisionStands_frameEnd_of_ne hq _ _ (.refl p s)

theorem decisionStands_delimit_of_ne (x : LineEvent) (s : State) : DecisionStands p s (delimit q x s) := by
  have received (r : Receiver) : PathKept p s (s.setRx q r) := .of_apart rfl
  have ended (cls : EndClass) : DecisionStands p s (frameEnd q cls x s) := decisionStands_frameEnd_of_ne hq cls x (.refl p s)
  unfold delimit
  dsimp only
  split
  · exact (received _).decision
  · exact ((received _).trans (pathKept_bucketAdd q _ _)).decision
  · exact decisionStands_headerByte_of_ne hq _ s
  · exact ended _
  · exact decisionStands_bodyByte_of_ne hq _ s
  · exact ended _
  · exact ended _

theorem decisionStands_receive_of_ne (x : LineEvent) (s : State) : DecisionStands p s (receive q x s) := by
  unfold receive
  rw [countCodeError_eq]
  split
  · exact .inl rfl
  · exact decisionStands_synchronise x _
  · exact decisionStands_delimit_of_ne hq x _
  · exact .inl rfl

end

end

/-! ## The outputs and the ticks -/

section
variable {p q : Port} {s : State}

theorem pathKept_startEntry (b : EntryBody) (s : State) : PathKept p s (startEntry q b s) := by
  cases b with
  | answer | mreply | assign => exact pathKept_setPath rfl
  | notice => exact .trans (.of_apart rfl) (pathKept_setPath rfl)
  | beacon n =>
    simp only [startEntry, moveBeacon]
    split
    · exact .trans (.of_apart rfl) (pathKept_setPath rfl)
    · exact pathKept_setPath rfl

theorem pathKept_moveOut (x : QEntry) (rest : List QEntry) (s : State) : PathKept p s (moveOut q x rest s) := by
  unfold moveOut
  rw [countInjected_frame]
  exact .trans (.trans (.of_apart rfl) (pathKept_startEntry x.body _)) (.of_apart rfl)

theorem pathKept_moveOutFrom (x : Source) (s : State) : PathKept p s (moveOutFrom x q s) := by
  unfold moveOutFrom
  split
  · split
    · split
      · exact pathKept_moveOut _ _ s
      · exact .refl p s
    · exact .refl p s
  · exact .refl p s

theorem pathKept_startThrough (s : State) : PathKept p s (startThrough q s) := pathKept_setPath rfl

theorem pathKept_arbitrate (s : State) : PathKept p s (arbitrate q s) := by
  unfold arbitrate
  split
  · exact pathKept_startThrough s
  · split
    · split
      · exact pathKept_moveOut _ _ s
      · exact .refl p s
    · exact .refl p s

theorem pathKept_sendSymbol (x : Symbol) (tx : Tx) (s : State) : PathKept p s (sendSymbol q x tx s) := pathKept_setPath rfl

theorem pathKept_sendPlace (s : State) : PathKept p s (sendPlace q s) := by
  have sent (x : Symbol) (tx : Tx) (fs : List StoredFrame) :
      PathKept p s ((sendSymbol q x tx s).setStore (dirOut q) fs) := (pathKept_sendSymbol x tx s).trans (pathKept_setStore _ fs)
  unfold sendPlace
  split
  · exact sent _ _ _
  · unfold sendMark
    split <;> exact (sent _ _ _).trans (.of_apart rfl)
  · exact .refl p s
  · exact .refl p s

theorem pathKept_sendNext (s : State) : PathKept p s (sendNext q s) := by
  unfold sendNext
  split
  case h_3 => exact pathKept_sendPlace s
  all_goals exact pathKept_sendSymbol _ _ s

theorem pathKept_sendInBypass (s : State) : PathKept p s (sendInBypass q s) := by
  unfold sendInBypass
  refine .trans ?_ (.of_apart rfl)
  split
  · exact pathKept_sendSymbol _ _ s
  · exact pathKept_setPath rfl

theorem pathKept_transmit (s : State) : PathKept p s (transmit q s) := by
  unfold transmit
  split
  · exact pathKept_sendInBypass s
  · exact pathKept_sendNext s
  · exact (pathKept_arbitrate s).trans (pathKept_sendNext _)
  · exact (pathKept_arbitrate s).trans (pathKept_sendNext _)

theorem pathKept_ageOut (s : State) : PathKept p s (ageOut q s) := by
  rw [ageOut_frame]
  exact .of_apart rfl

theorem pathKept_fireBeacon (n : Fin 32) (s : State) : PathKept p s (fireBeacon n s) := by
  rw [fireBeacon_frame]
  exact .of_apart rfl

/-- R27: the settle timer's end takes the part into the line and touches no path. -/
theorem settleExpiry_paths (s : State) : (settleExpiry s).paths = s.paths := by
  unfold settleExpiry
  split
  · rw [enterFallback_frame]
  · rw [enterRelay_frame]

/-- R34: a 1 ms tick touches no path. -/
theorem tick1ms_paths (s : State) : (tick1ms s).paths = s.paths := by
  refine tick1ms_stages (P := fun t => t.paths = s.paths) (Q := fun t => t.paths = s.paths) ?_ (fun _ _ h => h)
    (fun c due t h => ?_) (fun t h => ?_) (fun t h => ?_) (fun c due t h => ?_)
  · rw [tickCoolDown_frame, tickCoolDown_frame]
    rfl
  · rw [fireBeacons_frame]
    exact h
  · rw [tickSettle_frame]
    exact h
  · rw [agedOut_frame]
    exact h
  · rw [fireBeacons_frame]
    exact h

theorem decisionStands_of_paths {t : State} (h : t.paths = s.paths) : DecisionStands p s t := .inl (by rw [State.arriving, h])

theorem decisionStands_takeTick1 (s : State) : DecisionStands p s (takeTick1 s) := by
  unfold takeTick1
  split
  · have ticked : DecisionStands p s (tick1ms { s with due := { s.due with one := false } }) :=
      decisionStands_of_paths (tick1ms_paths _)
    exact ticked.trans (pathKept_settleRestart _)
  · exact .inl rfl

theorem pathKept_takeTick10 (s : State) : PathKept p s (takeTick10 s) := by
  unfold takeTick10
  split
  · rw [tick10ms_frame, tickHolds, foldl_lapse_frame]
    exact .of_apart rfl
  · exact .refl p s

theorem pathKept_takeTick100 (s : State) : PathKept p s (takeTick100 s) := by
  unfold takeTick100 tick100ms
  split
  · dsimp only
    split
    · exact .of_apart rfl
    · split
      · exact .trans (.of_apart rfl) (pathKept_expireLease _ _)
      · exact .of_apart rfl
  · exact .refl p s

theorem decisionStands_advanceTime (s : State) : DecisionStands p s (advanceTime s) :=
  (decisionStands_takeTick1 s).trans (((pathKept_takeTick10 _).trans (pathKept_takeTick100 _)).trans (.of_apart rfl))

/-! ## A running copy -/

theorem pathKept_completeCopy (s : State) : PathKept p s (completeCopy s) := by
  unfold completeCopy fillHeldPlace
  split
  · exact .refl p s
  · split <;> exact .of_apart rfl

theorem pathKept_advanceCopy (s : State) : PathKept p s (advanceCopy s) := by
  unfold advanceCopy
  split
  · exact .refl p s
  · split
    · dsimp only
      split
      · exact .trans (.of_apart rfl) (pathKept_completeCopy _)
      · exact .of_apart rfl
    · exact pathKept_completeCopy s

/-! ## Every command -/

theorem exists_next_ite_of {P : State → Prop} {c : Prop} [Decidable c] {u v : State} (hu : c → P u) (hv : ¬c → P v) :
    ∃ t, (if c then .next u else .next v : Host.Outcome State Fault Refusal) = .next t ∧ P t := by
  split
  · exact ⟨u, rfl, hu ‹_›⟩
  · exact ⟨v, rfl, hv ‹_›⟩

theorem decisionStands_requestRow {f : Handler} (hf : f.PathSafe p) (code : Byte) (e : Envelope) (s : State) :
    ∃ t, requestRow f code e s = .next t ∧ DecisionStands p s t :=
  exists_next_ite_of (fun _ => .inl rfl) fun _ =>
    ((pathKept_agentRequest hf code s).trans (pathKept_settleRestart _)).decision

theorem decisionStands_receiveRow_of_ne (hq : q ≠ p) (x : LineEvent) (s : State) :
    ∃ t, receiveRow q x s = .next t ∧ DecisionStands p s t :=
  exists_next_ite_of (fun _ => .inl rfl) fun _ => (decisionStands_receive_of_ne hq x s).trans (pathKept_settleRestart _)

theorem decisionStands_execLeaseExpiry (s : State) : ∃ t, execLeaseExpiry s = .next t ∧ DecisionStands p s t := by
  unfold execLeaseExpiry
  split
  · exact ⟨s, rfl, .inl rfl⟩
  · exact exists_next_ite_of (fun _ => .inl rfl) fun _ => (pathKept_expireLease _ s).decision

/-- R40, R52: a command that is no byte time of the arrival port leaves the decision standing, or abandoned out of the line. -/
theorem decisionStands_exec {c : Instr} (hc : receivesOn p c = false) (s : State) :
    ∃ t, exec c s = .next t ∧ DecisionStands p s t := by
  have outOfReset {u : State} (hu : DecisionStands p s u) :
      ∃ t, (if s.resetPin then .next s else .next u : Host.Outcome State Fault Refusal) = .next t ∧ DecisionStands p s t :=
    exists_next_ite_of (fun _ => .inl rfl) fun _ => hu
  have guarded {g : Prop} [Decidable g] {u : State} (hu : DecisionStands p s u) :
      ∃ t, (if g then .next u else .next s : Host.Outcome State Fault Refusal) = .next t ∧ DecisionStands p s t :=
    exists_next_ite_of (fun _ => hu) fun _ => .inl rfl
  have reported (x : PerPort Bool) : PathKept p s { s with signal := x } := .of_apart rfl
  cases c with
  | resetAssert => exact ⟨_, rfl, .inr ⟨⟨rfl, .a, nofun⟩, by cases p <;> rfl⟩⟩
  | resetRelease straps =>
    exact guarded ((PathKept.trans (.of_apart rfl) (pathKept_releasePort .a _)).trans (pathKept_releasePort .b _)).decision
  | signalPresent q =>
    exact exists_next_ite_of (fun _ => ((reported _).trans (pathKept_startSync q _)).decision) fun _ => (reported _).decision
  | lossOfSignal q =>
    exact exists_next_ite_of
      (fun _ => (((reported _).trans (pathKept_loseSignal q _)).trans (pathKept_settleRestart _)).decision)
      fun _ => (reported _).decision
  | receiveSof | receiveDataByte | receiveEof | receiveAbort | receiveIdle | codeError =>
    exact decisionStands_receiveRow_of_ne (of_decide_eq_false hc) _ s
  | coolDownExpiry q => exact guarded (pathKept_coolDownEnd q s).decision
  | joinSettleExpiry => exact guarded (decisionStands_of_paths (settleExpiry_paths s))
  | throughFrameStart q => exact guarded (pathKept_startThrough s).decision
  | transmitSymbol q => exact outOfReset ((pathKept_transmit s).trans (pathKept_settleRestart _)).decision
  | moveOutAnswer | moveOutMreply | moveOutNotice | moveOutAssign | moveOutBeacon =>
    exact ⟨_, rfl, (pathKept_moveOutFrom _ s).decision⟩
  | tick1ms => exact outOfReset (decisionStands_takeTick1 s)
  | queueAgeOut q => exact outOfReset ((pathKept_ageOut s).trans (pathKept_settleRestart _)).decision
  | beaconExpiry n => exact guarded (PathKept.trans (.of_apart rfl) (pathKept_fireBeacon n _)).decision
  | tick10ms => exact outOfReset (pathKept_takeTick10 s).decision
  | holdTimerExpiry n => exact outOfReset (pathKept_lapse n s).decision
  | noticeRepeatExpiry => exact guarded (PathKept.trans (.of_apart rfl) (pathKept_offerNotice _)).decision
  | tick100ms => exact outOfReset (pathKept_takeTick100 s).decision
  | leaseExpiry => exact decisionStands_execLeaseExpiry s
  | bankCopyAdvance => exact outOfReset (pathKept_advanceCopy s).decision
  | bankCopyComplete => exact outOfReset (pathKept_completeCopy s).decision
  | ident e ps => exact decisionStands_requestRow (pathSafe_ident ps) _ e s
  | claim e ps => exact decisionStands_requestRow (pathSafe_claim ps) _ e s
  | renounce e ps => exact decisionStands_requestRow (pathSafe_renounce ps) _ e s
  | settingsRead e ps => exact decisionStands_requestRow (pathSafe_settingsRead ps) _ e s
  | settingsWrite e ps => exact decisionStands_requestRow (pathSafe_settingsWrite ps) _ e s
  | entryRead e ps => exact decisionStands_requestRow (pathSafe_entryRead ps) _ e s
  | entryWrite e ps => exact decisionStands_requestRow (pathSafe_entryWrite ps) _ e s
  | entryClear e ps => exact decisionStands_requestRow (pathSafe_entryClear ps) _ e s
  | bankCopy e ps => exact decisionStands_requestRow (pathSafe_bankCopy ps) _ e s
  | bankSwap e ps => exact decisionStands_requestRow (pathSafe_bankSwap ps) _ e s
  | slotSetup e ps => exact decisionStands_requestRow (pathSafe_slotSetup ps) _ e s
  | slotLoad e ps => exact decisionStands_requestRow (pathSafe_slotLoad ps) _ e s
  | slotReadWithoutHold e slot => exact decisionStands_requestRow (pathSafe_slotReadPlain slot) _ e s
  | slotReadWithHold e slot => exact decisionStands_requestRow (pathSafe_slotReadHold slot) _ e s
  | slotRelease e ps => exact decisionStands_requestRow (pathSafe_slotRelease ps) _ e s
  | noticeAck e ps => exact decisionStands_requestRow (pathSafe_noticeAck ps) _ e s
  | statsReadWithoutClear e group => exact decisionStands_requestRow (pathSafe_statsPlain group) _ e s
  | statsReadWithClear e group => exact decisionStands_requestRow (pathSafe_statsClear group) _ e s
  | restart e ps => exact decisionStands_requestRow (pathSafe_restart ps) _ e s
  | unknownRequest e code ps => exact decisionStands_requestRow (pathSafe_handlerOf code ps) code e s
  | assign q n => exact outOfReset (pathKept_assignEnd q n s).decision
  | restartBegin => exact guarded (pathKept_restartBegin s).decision
  | timestampCounterAdvance => exact outOfReset (decisionStands_advanceTime s)

end

/-- A part in RELAY with the decision of a broadcast MGMT frame standing on Port A. -/
def decidingPart : State := { partWith (syncedWith 0) .relay with
  paths := ⟨{ RelayPath.reset with flight := some {
    header := headerOf [0x80, 0xFF], sofTime := 0, decision := { plainDecision .forward .none with agentCopy := true }
    buffer := [] } }, .reset⟩ }

/-- O60: Port B's line, the transmitters and the time base leave the decision; Port B's loss of signal abandons it. -/
example : (ran [.receiveSof .b, .transmitSymbol .a, .transmitSymbol .b, .timestampCounterAdvance] decidingPart).arriving .a
    = decidingPart.arriving .a := by decide

example : let t := ran [.lossOfSignal .b] decidingPart
    t.relay = .bypass ∧ t.arriving .a = none := by decide

/-- Settles O60: the row's operation keeps the decision, or ends with it abandoned and the part in BYPASS. -/
theorem decisionStandsToFrameEnd : Obligations.DecisionStandsToFrameEnd := by
  intro c p s t hc ht
  obtain ⟨u, hu, stands⟩ := decisionStands_exec hc s
  cases hu.symm.trans ht
  exact stands.imp_right fun ⟨⟨hrelay, _⟩, hnone⟩ => ⟨hrelay, hnone⟩

end Sys2Proof.Machine
end

section
/-! SUPPORT and proofs of the relay path from a header to its frame's end (chapter 3): the outcome of a header, the commits, the request
that a frame's end is, and the start of an output. -/

namespace Sys2Proof.Machine

/-! ## An output's start (R49) -/

/-- Settles O28: a FREE output with a stored frame meets condition 1; every refusal fails a part of condition 1 or 2. -/
theorem outputsStartOnlyWhenFree : Obligations.OutputsStartOnlyWhenFree := by
  refine ⟨⟨fun p s hreset hrelay htx hstore => ?starts, fun p s h => if_neg ?refuses⟩, fun p c s hc h => ?moveOut⟩
  case starts =>
    refine if_pos ?_
    simp [canStartThrough, mayStart, relays_iff.mpr hrelay, htx, Tx.isFree, hstore, hreset]
  case refuses =>
    rcases h with h | h | h | h <;> simp [canStartThrough, mayStart, RelayState.relays, h]
  case moveOut =>
    have stands (x : Source) : moveOutFrom x p s = s := by
      rcases h with h | h | h | h | h | h
      case inr.inr.inr.inr.inr => simp [moveOutFrom, selectEntry_of_none_ready h]
      all_goals simp [moveOutFrom, canInject, mayStart, RelayState.relays, h]
    rcases hc with rfl | rfl | rfl | rfl | rfl <;> exact congrArg _ (stands _)

/-! ## The outcome of a header (R39, R64) -/

section
variable {p : Port} {h : Header} {i : Fin 64} {e : Entry} {n : Fin 32} {s : State}

theorem defaultDecision_of_pass (hd : s.settings.defaults.get (dirIn p) = .pass) :
    defaultDecision p s = (s, plainDecision .forward .default) := by simp only [defaultDecision, hd]

theorem defaultDecision_of_drop (hd : s.settings.defaults.get (dirIn p) = .drop) :
    defaultDecision p s = (s.bumpDir (dirIn p) (fun c => { c with droppedDefault := satInc c.droppedDefault }),
      plainDecision .drop .default) := by simp only [defaultDecision, hd]

theorem entryDecision_of_pass (ha : e.action = .pass) :
    entryDecision p h i e s = (s, plainDecision .forward (.entry i)) := by simp only [entryDecision, ha]

theorem entryDecision_of_drop (ha : e.action = .drop) :
    entryDecision p h i e s = (s.bumpDir (dirIn p) (fun c => { c with droppedEntry := satInc c.droppedEntry }),
      plainDecision .drop (.entry i)) := by simp only [entryDecision, ha]

theorem entryDecision_of_capture (ha : e.action = .capture) (hs : e.slot = some n) {x : CaptureSlot}
    (hx : s.slots[n].body = .capture x) :
    entryDecision p h i e s = (s, { plainDecision .forward (.entry i) with commit := .capture n s.slots[n].gen }) := by
  simp only [entryDecision, ha, hs, hx]

theorem entryDecision_of_take (ha : e.action = .take) (hs : e.slot = some n) {x : CaptureSlot}
    (hx : s.slots[n].body = .capture x) :
    entryDecision p h i e s = (s.bumpDir (dirIn p) (fun c => { c with taken := satInc c.taken }),
      { plainDecision .take (.entry i) with commit := .capture n s.slots[n].gen }) := by
  simp only [entryDecision, ha, hs, hx]

theorem entryDecision_of_learn (ha : e.action = .learn) (hs : e.slot = some n) {x : AnswerSlot}
    (hx : s.slots[n].body = .answer x) :
    entryDecision p h i e s = (s, { plainDecision .forward (.entry i) with commit := .learn n s.slots[n].gen }) := by
  simp only [entryDecision, ha, hs, hx]

/-- R64: the slot is not of the kind the action needs. -/
theorem entryDecision_of_mismatch (hs : e.slot = some n)
    (hbody : (e.action = .capture ∨ e.action = .take) ∧ (∀ x, s.slots[n].body ≠ .capture x)
      ∨ (e.action = .learn ∨ e.action = .answer) ∧ (∀ x, s.slots[n].body ≠ .answer x)) :
    entryDecision p h i e s = slotMismatch p i s := by
  rcases hbody with ⟨ha | ha, hb⟩ | ⟨ha | ha, hb⟩ <;> simp only [entryDecision, ha, hs]

end

/-! ## The header of a frame (R36, R40, R41) -/

section
variable {p : Port} {b : Byte} {h : Header} {s : State}

theorem headerBytes_length (h : Header) : (headerBytes h).length = 8 := rfl

/-- R40, R41: the path holds the header with its decision, and a FORWARD frame's header bytes are 8 places more. -/
theorem holdHeader_eq (p : Port) (h : Header) (now : Wide) (d : Decision) (s : State) :
    holdHeader p h now d s = s.setPath (dirIn p) (heldHeader h now d (s.paths.get (dirIn p))) := by
  unfold holdHeader heldHeader
  dsimp only
  split
  · simp [State.setStore, raiseMark, occupancy_append, occupancy, StoredFrame.places, headerBytes_length]
  · rfl

theorem heldHeader_tx (h : Header) (now : Wide) (d : Decision) (w : RelayPath) : (heldHeader h now d w).tx = w.tx := by
  unfold heldHeader
  split <;> rfl

/-- R9: the receiver of p has taken its eighth header byte, and nothing else has happened yet. -/
def headerTaken (p : Port) (b : Byte) (s : State) : State := { s with rx := s.rx.set p (afterHeader b (s.rx.get p)) }

theorem exec_completesHeader (hc : CompletesHeader p b h s) :
    exec (.receiveDataByte p b) s
      = .next (settleRestart (headerReport p h (s.rx.get p).sofTime (headerTaken p b s))) := by
  obtain ⟨hreset, -, hsynced, hheader, hgap, hcount, rfl, hlen⟩ := hc
  refine (exec_delivery_of_synced (x := .symbol (.data b)) hreset hsynced).trans ?_
  rw [countCodeError_symbol, delimit_of_header_data hheader]
  simp [headerByte, headerRx, hcount, hlen, hgap, afterHeader, headerTaken, State.setRx]

/-- R36, R40: a header decided in the line, where finding its outcome u, d has left the paths, the queues and the mark of a waiting restart
as they were. -/
theorem exec_header_decided (hc : CompletesHeader p b h s) (hrelays : s.relay.relays = true) {u : State} {d : Decision}
    (hd : decideHeader p h (headerTaken p b s) = (u, d)) (hpaths : u.paths = s.paths)
    (hqueues : u.queues = s.queues) (hpending : u.restartPending = s.restartPending) :
    exec (.receiveDataByte p b) s
      = .next (u.setPath (dirIn p) (heldHeader h (s.rx.get p).sofTime d (s.paths.get (dirIn p)))) := by
  have tx := PerDir.map_get_set (fun w => w.tx.isNamed) s.paths
    (congrArg Tx.isNamed (heldHeader_tx h (s.rx.get p).sofTime d (s.paths.get (dirIn p))))
  obtain ⟨-, hdue, -⟩ := id hc
  have due : restartDue (u.setPath (dirIn p) (heldHeader h (s.rx.get p).sofTime d (s.paths.get (dirIn p)))) = false := by
    refine (restartDue_eq ?_ ?_ ?_).trans hdue
    · exact hpending
    · exact hqueues
    · rw [State.setPath_paths, hpaths]
      exact tx
  rw [exec_completesHeader hc, headerReport, if_pos (by exact hrelays), hd, holdHeader_eq, hpaths,
    settleRestart_of_not_due due]

/-- R36, R134: a header reported out of the line. -/
theorem exec_header_undecided (hc : CompletesHeader p b h s) (hrelay : s.relay = .bypass ∨ s.relay = .joining) :
    exec (.receiveDataByte p b) s = .next (undecidedHeader h (headerTaken p b s)) := by
  have hrelays : ¬(headerTaken p b s).relay.relays = true := by
    rcases hrelay with hr | hr <;> simp [headerTaken, hr, RelayState.relays]
  obtain ⟨-, hdue, -⟩ := id hc
  rw [exec_completesHeader hc, headerReport, if_neg hrelays, settleRestart_of_not_due]
  unfold undecidedHeader
  split <;> exact hdue

/-- R39, R63: the deciding entry has counted its hit before its action is looked at. -/
def headerHit (p : Port) (b : Byte) (i : Fin 64) (s : State) : State :=
  { headerTaken p b s with engine := s.engine.hit i }

section
variable (hkind : kindOf h.kindFlags = .data ∨ kindOf h.kindFlags = .poll ∨ kindOf h.kindFlags = .answer)
include hkind

/-- R36: a DATA, POLL or ANSWER header is matched in RELAY and forwarded in FALLBACK. -/
theorem decideHeader_of_matchable (p : Port) (s : State) :
    decideHeader p h s = if s.relay = .relay then matchDecision p h s else (s, plainDecision .forward .none) := by
  rcases hkind with hk | hk | hk <;> simp only [decideHeader, hk]

theorem undecidedHeader_of_matchable (s : State) : undecidedHeader h s = s := by
  rcases hkind with hk | hk | hk <;> simp [undecidedHeader, hk]

theorem decideHeader_of_no_match (hrelay : s.relay = .relay) (hsearch : searchBank s.engine.active p h = none) :
    decideHeader p h (headerTaken p b s) = defaultDecision p (headerTaken p b s) := by
  rw [decideHeader_of_matchable hkind, if_pos (by exact hrelay), matchDecision]
  simp only [headerTaken, hsearch]

theorem decideHeader_of_match {i : Fin 64} (hrelay : s.relay = .relay) (hsearch : searchBank s.engine.active p h = some i) :
    decideHeader p h (headerTaken p b s) = entryDecision p h i s.engine.active[i] (headerHit p b i s) := by
  rw [decideHeader_of_matchable hkind, if_pos (by exact hrelay), matchDecision]
  simp only [headerTaken, hsearch]
  rfl

end

end

/-- Settles O15: without a deciding entry the outcome is the default action's, FALLBACK's, or none. -/
theorem unmatchedHeaderTakesDefault : Obligations.UnmatchedHeaderTakesDefault := by
  intro p b h s hc hkind rx' held
  refine ⟨fun hrelay hsearch hdefault => ?pass, fun hrelay hsearch hdefault => ?drop, fun hrelay => ?fallback,
    fun hrelay => ?undecided⟩
  case pass =>
    exact (exec_header_decided hc (relays_iff.mpr (.inl hrelay))
      ((decideHeader_of_no_match hkind hrelay hsearch).trans (defaultDecision_of_pass hdefault)) rfl rfl rfl).trans rfl
  case drop =>
    exact (exec_header_decided hc (relays_iff.mpr (.inl hrelay))
      ((decideHeader_of_no_match hkind hrelay hsearch).trans (defaultDecision_of_drop hdefault)) rfl rfl rfl).trans rfl
  case fallback =>
    have forwarded := decideHeader_of_matchable hkind p (headerTaken p b s)
    rw [if_neg (by simp [headerTaken, hrelay])] at forwarded
    exact (exec_header_decided hc (relays_iff.mpr (.inr hrelay)) forwarded rfl rfl rfl).trans rfl
  case undecided => exact (exec_header_undecided hc hrelay).trans (congrArg _ (undecidedHeader_of_matchable hkind _))

/-- Settles O16: each action is one outcome of the entry, or the mismatch where the slot is of another kind. -/
theorem decidingEntryActs : Obligations.DecidingEntryActs := by
  intro p b h s i n hc hrelay hkind hsearch e d0 g count result run
  have decided {u : State} {d : Decision} (hd : entryDecision p h i e (headerHit p b i s) = (u, d))
      (hpaths : u.paths = s.paths) (hqueues : u.queues = s.queues) (hpending : u.restartPending = s.restartPending) :=
    exec_header_decided hc (relays_iff.mpr (.inl hrelay)) ((decideHeader_of_match hkind hrelay hsearch).trans hd)
      hpaths hqueues hpending
  have mismatch (hd : entryDecision p h i e (headerHit p b i s) = slotMismatch p i (headerHit p b i s)) :
      run = .next (result d0 (count fun c => { c with slotMismatch := satInc c.slotMismatch })) := decided hd rfl rfl rfl
  refine ⟨fun ha => ?pass, fun ha => ?drop, fun ha hs x hx => ?capture, fun ha hs x hx => ?take,
    fun ha hs x hx => ?learn, fun hs hbody => mismatch (entryDecision_of_mismatch hs hbody)⟩
  case pass => exact (decided (entryDecision_of_pass ha) rfl rfl rfl).trans rfl
  case drop => exact (decided (entryDecision_of_drop ha) rfl rfl rfl).trans rfl
  case capture => exact (decided (entryDecision_of_capture ha hs hx) rfl rfl rfl).trans rfl
  case take => exact (decided (entryDecision_of_take ha hs hx) rfl rfl rfl).trans rfl
  case learn => exact (decided (entryDecision_of_learn ha hs hx) rfl rfl rfl).trans rfl

/-! ## Management headers (R37, R38, R134) -/

section
variable {p : Port} {h : Header} {s : State}

theorem addressedToPart_iff {own dest : Byte} : addressedToPart own dest = true ↔ dest = own ∧ own ≠ 255 := by
  simp [addressedToPart]

theorem decideHeader_of_mgmt_to_part (hk : kindOf h.kindFlags = .mgmt) (hto : h.dest = s.ownAddr ∧ s.ownAddr ≠ 255) :
    decideHeader p h s = (countConsumed p (openInbox p (.request false) h s), plainDecision .consumeAgent .none) := by
  simp only [decideHeader, hk, mgmtDecision, addressedToPart_iff.mpr hto, if_true]

theorem decideHeader_of_mgmt_broadcast (hk : kindOf h.kindFlags = .mgmt) (hto : h.dest = 255) :
    decideHeader p h s = (openInbox p (.request true) h s, { plainDecision .forward .none with agentCopy := true }) := by
  have other : ¬addressedToPart s.ownAddr h.dest = true := by
    rw [addressedToPart_iff, hto]
    exact fun ⟨hown, hne⟩ => hne hown.symm
  simp only [decideHeader, hk, mgmtDecision, if_neg other, if_pos hto]

theorem decideHeader_of_mgmt_to_other (hk : kindOf h.kindFlags = .mgmt) (hown : h.dest ≠ s.ownAddr) (hto : h.dest ≠ 255) :
    decideHeader p h s = (s, plainDecision .forward .none) := by
  have other : ¬addressedToPart s.ownAddr h.dest = true := fun ha => hown (addressedToPart_iff.mp ha).1
  simp only [decideHeader, hk, mgmtDecision, if_neg other, if_neg hto]

theorem decideHeader_of_assign (hk : kindOf h.kindFlags = .assign) :
    decideHeader p h s = (countConsumed p (openInbox p .assign h s), plainDecision .consumeAssign .none) := by
  simp only [decideHeader, hk]

theorem decideHeader_of_mreply (hk : kindOf h.kindFlags = .mreply) :
    decideHeader p h s = (s, plainDecision .forward .none) := by simp only [decideHeader, hk]

theorem decideHeader_of_unknown (hk : kindOf h.kindFlags = .unknown) :
    decideHeader p h s = (s.bumpDir (dirIn p) (fun c => { c with unknownKind := satInc c.unknownKind }),
      plainDecision .forward .none) := by simp only [decideHeader, hk]

theorem undecidedHeader_of_agent
    (hto : kindOf h.kindFlags = .mgmt ∧ h.dest = s.ownAddr ∧ s.ownAddr ≠ 255 ∨ kindOf h.kindFlags = .assign) :
    undecidedHeader h s = s.bumpAgent (fun c => { c with discardedBypass := satInc c.discardedBypass }) :=
  if_pos (by rwa [addressedToPart_iff])

theorem undecidedHeader_of_other (hto : ¬(kindOf h.kindFlags = .mgmt ∧ h.dest = s.ownAddr ∧ s.ownAddr ≠ 255))
    (hk : kindOf h.kindFlags ≠ .assign) : undecidedHeader h s = s :=
  if_neg (by rw [addressedToPart_iff]; exact not_or.mpr ⟨hto, hk⟩)

end

/-- Settles O17: in the line each kind has its outcome, by the address for MGMT; out of it the agent's frames are counted. -/
theorem managementHeadersAreSorted : Obligations.ManagementHeadersAreSorted := by
  intro p b h s hc rx' d0 held count consumed inbox toPart run
  refine ⟨fun hrelay => ?inLine, fun hrelay => ⟨fun hto => ?agent, fun hto hk => ?other⟩⟩
  case inLine =>
    have decided {u : State} {d : Decision} := exec_header_decided hc (relays_iff.mpr hrelay) (u := u) (d := d)
    refine ⟨fun hto => ?toPart, fun hk hto => ?broadcast, fun hk hown hto => ?toOther, fun hk => ?assign, fun hk => ?mreply,
      fun hk => ?unknown⟩
    case toPart => exact (decided (decideHeader_of_mgmt_to_part hto.1 hto.2) rfl rfl rfl).trans rfl
    case broadcast => exact (decided (decideHeader_of_mgmt_broadcast hk hto) rfl rfl rfl).trans rfl
    case toOther => exact (decided (decideHeader_of_mgmt_to_other hk hown hto) rfl rfl rfl).trans rfl
    case assign => exact (decided (decideHeader_of_assign hk) rfl rfl rfl).trans rfl
    case mreply => exact (decided (decideHeader_of_mreply hk) rfl rfl rfl).trans rfl
    case unknown => exact (decided (decideHeader_of_unknown hk) rfl rfl rfl).trans rfl
  case agent => exact (exec_header_undecided hc hrelay).trans (congrArg _ (undecidedHeader_of_agent hto))
  case other => exact (exec_header_undecided hc hrelay).trans (congrArg _ (undecidedHeader_of_other hto hk))

/-! ## The commit of a frame (R44, R86, R104) -/

section
variable {p : Port} {x : LineEvent} {cls : EndClass} {n : Fin 32} {s : State}

/-- R86: what a capture commit of a record leaves of a CAPTURE slot. -/
def capturedSlot (r : CapturedRecord) (x : Slot) : Slot :=
  match x.body with
  | .capture .empty => { x with body := .capture (.full r false) }
  | .capture (.full _ _) => { x with body := .capture (.full r true), count := satInc x.count }
  | .capture (.held c o none k) => { x with body := .capture (.held c o (some r) k) }
  | .capture (.held c o (some _) k) => { x with body := .capture (.held c o (some r) k), count := satInc x.count }
  | _ => x

theorem capturedSlot_notify (r : CapturedRecord) (x : Slot) : (capturedSlot r x).notify = x.notify := by
  unfold capturedSlot
  split <;> rfl

theorem captureCommit_of_capture {r : CapturedRecord} {c : CaptureSlot} (h : s.slots[n].body = .capture c) :
    captureCommit n r s = slotEvent n (s.setSlot n (capturedSlot r s.slots[n])) := by
  unfold captureCommit capturedSlot
  rcases c with _ | _ | ⟨_, _, _ | _, _⟩ <;> simp only [h]

/-- R104: what a learn commit leaves of an ANSWER slot y. -/
def learnedSlot (payload : List Byte) (aux : Byte) (y : AnswerSlot) (x : Slot) : Slot :=
  { x with body := .answer { y with content := .learned payload, age := ageOfAux aux }, count := satInc x.count }

theorem learnCommit_of_answer {payload : List Byte} {aux : Byte} {y : AnswerSlot} (h : s.slots[n].body = .answer y) :
    learnCommit n payload aux s = slotEvent n ((s.setSlot n (learnedSlot payload aux y s.slots[n])).bumpProxy
      (fun c => { c with learns := satInc c.learns })) := by
  simp only [learnCommit, h, learnedSlot]

/-- R79, R172: a slot's event is noted where its notify flag is set. -/
theorem slotEvent_notice (n : Fin 32) (s : State) :
    (slotEvent n s).notice = if s.slots[n].notify then (noted (slotBit n) s).notice else s.notice := by
  unfold slotEvent
  split
  · rw [addEvent_frame]
    rfl
  · rfl

theorem slotEvent_slots (n m : Fin 32) (s : State) : (slotEvent n s).slots[m] = s.slots[m] := by rw [slotEvent_frame]

theorem endCommit_of_capture {f : InFlight} {g : Byte} {i : Fin 64} (hrelay : s.relay = .relay)
    (hcommit : f.decision.commit = .capture n g) (hentry : f.decision.entry = .entry i) (hgen : s.slots[n].gen = g) :
    endCommit p .good f s
      = captureCommit n { header := f.header, payload := f.buffer, sofTime := f.sofTime, port := p, entry := i } s := by
  simp only [endCommit, hrelay, hcommit, hentry, hgen, and_self, if_true]

theorem endCommit_of_learn {f : InFlight} {g : Byte} (hrelay : s.relay = .relay)
    (hcommit : f.decision.commit = .learn n g) (hgen : s.slots[n].gen = g) :
    endCommit p .good f s = learnCommit n f.buffer f.header.aux s := by
  simp only [endCommit, hrelay, hcommit, hgen, and_self, if_true]

/-- R44: the three causes of a commit's abandonment. -/
theorem endCommit_abandoned {f : InFlight} {g : Byte} (hcommit : f.decision.commit = .capture n g ∨ f.decision.commit = .learn n g)
    (h : cls ≠ .good ∨ s.relay ≠ .relay ∨ s.slots[n].gen ≠ g) : endCommit p cls f s = s := by
  unfold endCommit
  split
  · rename_i hends
    have hgen : s.slots[n].gen ≠ g := (h.resolve_left (not_not.mpr hends.1)).resolve_left (not_not.mpr hends.2)
    rcases hcommit with hc | hc
    · cases f.decision.entry <;> simp only [hc, if_neg hgen]
    · simp only [hc, if_neg hgen]
  · rfl

theorem captureCommit_of_not_capture {r : CapturedRecord} (h : ¬∃ c, s.slots[n].body = .capture c) : captureCommit n r s = s := by
  unfold captureCommit
  split
  case h_5 => rfl
  all_goals exact absurd ⟨_, ‹_›⟩ h

/-- R86, R79: the commit's slot and its event. -/
theorem captureCommit_effect {r : CapturedRecord} {c : CaptureSlot} (h : s.slots[n].body = .capture c) :
    (captureCommit n r s).slots[n] = capturedSlot r s.slots[n]
    ∧ (captureCommit n r s).notice = if s.slots[n].notify then (noted (slotBit n) s).notice else s.notice := by
  rw [captureCommit_of_capture h, slotEvent_slots, slotEvent_notice, State.setSlot_getElem, if_pos rfl, capturedSlot_notify]
  exact ⟨rfl, rfl⟩

theorem captureCommit_slots_of_ne {m : Fin 32} (hm : m ≠ n) (r : CapturedRecord) (s : State) :
    (captureCommit n r s).slots[m] = s.slots[m] := by
  by_cases h : ∃ c, s.slots[n].body = .capture c
  · obtain ⟨c, hc⟩ := h
    rw [captureCommit_of_capture hc, slotEvent_slots, State.setSlot_getElem, if_neg (Ne.symm hm)]
  · rw [captureCommit_of_not_capture h]

/-- R104, R79: the slot, its event and the count of learns. -/
theorem learnCommit_effect {payload : List Byte} {aux : Byte} {y : AnswerSlot} (h : s.slots[n].body = .answer y) :
    let t := learnCommit n payload aux s
    t.slots[n] = learnedSlot payload aux y s.slots[n] ∧ (∀ m : Fin 32, m ≠ n → t.slots[m] = s.slots[m])
    ∧ t.proxyStats = { s.proxyStats with learns := satInc s.proxyStats.learns }
    ∧ t.notice = if s.slots[n].notify then (noted (slotBit n) s).notice else s.notice := by
  intro t
  have slots (m : Fin 32) : t.slots[m] = if n = m then learnedSlot payload aux y s.slots[n] else s.slots[m] := by
    simp only [t]
    rw [learnCommit_of_answer h, slotEvent_slots]
    exact State.setSlot_getElem s n m _
  have notify : (learnedSlot payload aux y s.slots[n]).notify = s.slots[n].notify := rfl
  refine ⟨by rw [slots, if_pos rfl], fun m hm => by rw [slots, if_neg (Ne.symm hm)], ?_, ?_⟩
  · simp only [t]
    rw [learnCommit_of_answer h, slotEvent_frame]
    rfl
  · simp only [t]
    rw [learnCommit_of_answer h, slotEvent_notice, State.bumpProxy_slots, State.setSlot_getElem, if_pos rfl, notify]
    rfl

/-- R43, R44: the frames that can name a commit: the end mark touches the path alone, and the commit comes after it. -/
theorem endVerdict_of_committing {f : InFlight} (hverdict : f.decision.verdict = .forward ∨ f.decision.verdict = .take)
    (p : Port) (cls : EndClass) (s : State) :
    ∃ w, endVerdict p cls f s = endCommit p cls f { s with paths := w }
      ∧ ∀ d, (w.get d).tx = (s.paths.get d).tx := by
  rcases hverdict with h | h
  · have marked : endVerdict p cls f s = endCommit p cls f (s.setStore (dirIn p)
        (pushMark (if cls = .good then .eof else .abort) (s.paths.get (dirIn p)).store)) := by simp only [endVerdict, h]
    refine ⟨_, marked, PerDir.map_get_set (fun x : RelayPath => x.tx) s.paths ?_⟩
    rfl
  · exact ⟨s.paths, by simp only [endVerdict, h], fun _ => rfl⟩

/-- R13: a frame has ended on p, its paths at w: the receiver has moved on and the end is counted. -/
def countedFrame (p : Port) (cls : EndClass) (x : LineEvent) (w : PerDir RelayPath) (s : State) : State := { s with
  rx := s.rx.set p (rxAfterEnd s.timestamp x (s.rx.get p))
  portStats := s.portStats.set p (countedEnd cls (s.portStats.get p))
  paths := w }

/-- R13, R44: the end of a frame that can name a commit is the commit on the slots, the queues and the relay state as they stood. -/
theorem endedFrame_of_committing {f : InFlight} (hflight : (s.paths.get (dirIn p)).flight = some f)
    (hverdict : f.decision.verdict = .forward ∨ f.decision.verdict = .take) (cls : EndClass) (x : LineEvent) :
    ∃ w, endedFrame p cls x s = { endCommit p cls f (countedFrame p cls x w s) with
        inbox := s.inbox.set p none, paths := (endedFrame p cls x s).paths }
      ∧ restartDue (endedFrame p cls x s) = restartDue s := by
  obtain ⟨w, hend, htx⟩ := endVerdict_of_committing hverdict p cls (countedFrame p cls x s.paths s)
  have ended : endedFrame p cls x s = ((endCommit p cls f (countedFrame p cls x w s)).setPath (dirIn p)
      { (endCommit p cls f (countedFrame p cls x w s)).paths.get (dirIn p) with flight := none }).setInbox p none := by
    have closed := closeFlight_of_some (p := p) (cls := cls) (s := countedFrame p cls x s.paths s) hflight
    rw [hend] at closed
    exact congrArg (fun u => u.setInbox p none) closed
  refine ⟨w, ?_, ?_⟩
  · rw [ended, endCommit_frame]
    rfl
  · rw [ended]
    have committed : restartDue (endCommit p cls f (countedFrame p cls x w s)) = restartDue s :=
      (restartDue_endCommit f _).trans (restartDue_eq rfl rfl fun d => congrArg Tx.isNamed (htx d))
    refine Eq.trans ?_ committed
    refine restartDue_eq rfl rfl ?_
    refine PerDir.map_get_set (fun y : RelayPath => y.tx.isNamed) (endCommit p cls f _).paths ?_
    rfl

theorem endedFrame_flight (p : Port) (cls : EndClass) (x : LineEvent) (s : State) :
    ((endedFrame p cls x s).paths.get (dirIn p)).flight = none := closeFlight_flight p cls _

/-! ### The EOF of a GOOD frame -/

theorem exec_receiveEof_of_goodEof (h : AtGoodEof p s) :
    exec (.receiveEof p) s = .next (settleRestart (frameEnd p .good (.symbol .eof) s)) := by
  obtain ⟨hreset, -, hsynced, hbody, hgap, hcount, hcheck⟩ := h
  refine (exec_delivery_of_synced (x := .symbol .eof) hreset hsynced).trans ?_
  rw [countCodeError_symbol]
  simp [delimit, hbody, endClass, hgap, eofClass, frameTotal, hcount, hcheck]

/-- R13: a GOOD end adds nothing to the bucket. -/
theorem frameEnd_good_eof (p : Port) (s : State) :
    frameEnd p .good (.symbol .eof) s = joinCheck (agentEnd p .good (closeFlight p .good
      ((s.setRx p (afterEnd (s.rx.get p))).bumpPort p (countedEnd .good)))) := by
  rw [frameEnd, countEnd_eq]
  exact congrArg joinCheck bucketAdd_zero

/-- R44: in RELAY the GOOD end of a frame that can name a commit, and that the agent does not receive, brings about nothing more. -/
theorem exec_receiveEof_of_committing {f : InFlight} (h : AtGoodEof p s) (hrelay : s.relay = .relay)
    (hinbox : s.inbox.get p = none) (hflight : (s.paths.get (dirIn p)).flight = some f)
    (hverdict : f.decision.verdict = .forward ∨ f.decision.verdict = .take) :
    exec (.receiveEof p) s = .next (endedFrame p .good (.symbol .eof) s) := by
  obtain ⟨-, -, hdue⟩ := endedFrame_of_committing hflight hverdict .good (.symbol .eof)
  have hline : (endedFrame p .good (.symbol .eof) s).relay ≠ .bypass := by
    rw [endedFrame_relay, hrelay]
    decide
  obtain ⟨-, waits, -⟩ := id h
  have adds : additions .good (.symbol .eof) = 0 := rfl
  rw [exec_receiveEof_of_goodEof h, frameEnd_eq fun _ => hinbox, adds, bucketAdd_zero, joinCheck_of_relay hline,
    settleRestart_of_not_due (hdue.trans waits)]

end

/-- Settles O21: the frame's end is the capture commit on the slots as they stood, and R86's table is what it leaves. -/
theorem captureCommitFollowsTable : Obligations.CaptureCommitFollowsTable := by
  intro p s f n i hend hrelay hinbox hflight hverdict hentry hcommit r x
  obtain ⟨w, ended, -⟩ := endedFrame_of_committing hflight hverdict .good (.symbol .eof)
  have frame := captureCommit_frame n r (countedFrame p .good (.symbol .eof) w s)
  rw [endCommit_of_capture (s := countedFrame p .good (.symbol .eof) w s) hrelay hcommit hentry rfl] at ended
  have effect {c : CaptureSlot} (hc : x.body = .capture c) :=
    captureCommit_effect (r := r) (s := countedFrame p .good (.symbol .eof) w s) hc
  refine ⟨_, exec_receiveEof_of_committing hend hrelay hinbox hflight hverdict, ?_⟩
  have slot {c : CaptureSlot} (hc : x.body = .capture c) :
      (endedFrame p .good (.symbol .eof) s).slots[n] = capturedSlot r x := by
    rw [ended]
    exact (effect hc).1
  refine ⟨fun h => ?empty, fun c o h => ?full, fun c o k h => ?held, fun c o q k h => ?pending, fun m hm => ?others, ?holdList,
    fun ⟨c, hc⟩ => ?notice, ?counted, endedFrame_flight ..⟩
  case empty => rw [slot h, capturedSlot]; simp only [h]
  case full => rw [slot h, capturedSlot]; simp only [h]
  case held => rw [slot h, capturedSlot]; simp only [h]
  case pending => rw [slot h, capturedSlot]; simp only [h]
  case others =>
    rw [ended]
    exact captureCommit_slots_of_ne hm r _
  case holdList => rw [ended, frame]; rfl
  case notice =>
    rw [ended]
    exact (effect hc).2
  case counted => rw [ended, frame]; rfl

/-- Settles O22: the frame's end is the learn commit on the slots as they stood. -/
theorem learnCommitSetsAnswer : Obligations.LearnCommitSetsAnswer := by
  intro p s f n y hend hrelay hinbox hflight hverdict hcommit hbody
  obtain ⟨w, ended, -⟩ := endedFrame_of_committing hflight (.inl hverdict) .good (.symbol .eof)
  rw [endCommit_of_learn (s := countedFrame p .good (.symbol .eof) w s) hrelay hcommit rfl] at ended
  obtain ⟨slot, others, proxy, notice⟩ := learnCommit_effect (payload := f.buffer) (aux := f.header.aux)
    (s := countedFrame p .good (.symbol .eof) w s) hbody
  refine ⟨_, exec_receiveEof_of_committing hend hrelay hinbox hflight (.inl hverdict), ?_, ?_, ?_, ?_, endedFrame_flight ..⟩
  all_goals rw [ended]
  · exact slot
  · exact others
  · exact proxy
  · exact notice

/-- Settles O23: with its commit abandoned the frame's end touches the receiver, the counters, the bucket and the path alone. -/
theorem commitAbandonedLeavesSlots : Obligations.CommitAbandonedLeavesSlots := by
  intro p c s f cls n g hreset hdue hsynced hbody hgap hinbox hflight hverdict hcommit hbucket hend _ habandoned
  obtain ⟨x, rfl⟩ := exists_delivery_of_receivesOn (receivesOn_of_bodyEnd hend)
  have ends := delimit_countCodeError_of_bodyEnd hbody hend
  have hclass : endClass (s.rx.get p) cls = cls := if_neg (by rw [hgap]; decide)
  have adds : additions cls x ≤ 2 := by
    unfold additions errorCount
    split <;> split <;> omega
  rw [hclass] at ends
  have run := exec_delivery_of_synced (p := p) (x := x) hreset hsynced
  have frame := countCodeError_eq p x s
  rw [ends] at run
  generalize countCodeError p x s = u at run frame
  obtain ⟨w, ended, due⟩ := endedFrame_of_committing (s := u) (p := p) (by rw [frame]; exact hflight) hverdict cls x
  rw [endCommit_abandoned hcommit (by rw [frame]; exact habandoned)] at ended
  have below : endedBelow p cls x u = { s with
      rx := (endedBelow p cls x u).rx, ports := (endedBelow p cls x u).ports, portStats := (endedBelow p cls x u).portStats
      inbox := (endedBelow p cls x u).inbox, paths := (endedFrame p cls x u).paths } := by
    rw [endedBelow, ended, frame]
    rfl
  have flight := endedFrame_flight p cls x u
  refine ⟨if x = .symbol .sof then endedBelow p cls x u else joinedAfterEnd p u (endedBelow p cls x u), ?_, ?_⟩
  · rw [run, settleRestart_frameEnd_of_lt (by rw [frame]; exact fun _ => hinbox) (by rw [frame]; exact hsynced)
      (by rw [frame]; exact Nat.lt_of_le_of_lt (Nat.add_le_add_left adds _) hbucket) (due.trans (by rw [frame]; exact hdue))]
  · unfold joinedAfterEnd
    rw [below]
    repeat' split
    all_goals exact ⟨rfl, rfl, rfl, rfl, rfl, flight⟩

/-! ## A frame the agent has received (R46, R135, R149) -/

section
variable {p : Port} {cls : EndClass} {s t : State} {x : Inbox} {code : Byte} {ps : List Byte}

theorem agentEnd_of_request {copy : Bool} (hinbox : s.inbox.get p = some x) (hkind : x.kind = .request copy)
    (hpayload : x.payload = code :: ps) :
    agentEnd p .good s
      = agentRequest (handlerOf code ps) code { port := p, src := x.src, seq := x.seq, copy := copy } (s.setInbox p none) := by
  simp only [agentEnd, hinbox, hkind, hpayload, if_true]

theorem agentEnd_of_assign {n : Byte} {rest : List Byte} (hinbox : s.inbox.get p = some x) (hkind : x.kind = .assign)
    (hpayload : x.payload = n :: rest) : agentEnd p .good s = assignEnd p n (s.setInbox p none) := by
  simp only [agentEnd, hinbox, hkind, hpayload, if_true]

theorem closeFlight_of_consumed {f : InFlight} (hflight : (s.paths.get (dirIn p)).flight = some f)
    (hverdict : f.decision.verdict = .consumeAgent ∨ f.decision.verdict = .consumeAssign) :
    closeFlight p cls s = s.setPath (dirIn p) { s.paths.get (dirIn p) with flight := none } := by
  have nothing : endVerdict p cls f s = s := by rcases hverdict with h | h <;> simp only [endVerdict, h]
  rw [closeFlight_of_some hflight, nothing]

theorem joinCheck_of_offLine (h : OffLine s) : joinCheck s = s := by
  obtain ⟨-, q, hq⟩ := h
  exact joinCheck_of_not_synced hq

/-- R26: what a part in the line does in an event brings about no join. -/
theorem PathKept.joinCheck_of_inLine (h : PathKept p s t) (hrelay : s.relay ≠ .bypass) : Machine.joinCheck t = t :=
  (h.inLine hrelay).elim joinCheck_of_relay joinCheck_of_offLine

theorem restartDue_setQueue {q : Queue}
    (h : q.entries.any (fun e => e.body.isNamed) = (s.queues.get p).entries.any (fun e => e.body.isNamed)) :
    restartDue (s.setQueue p q) = restartDue s := by
  cases p <;> simp only [restartDue, State.setQueue, PerPort.set, PerPort.get] at h ⊢ <;> rw [h]

/-- R169: an enumeration frame's end leaves the reply a restart waits for. -/
theorem restartDue_assignEnd (p : Port) (n : Byte) (s : State) : restartDue (assignEnd p n s) = restartDue s := by
  have offered (q : Port) (b : Byte) (u : State) : restartDue (offerAssign q b u) = restartDue u := by
    unfold offerAssign
    split
    · refine restartDue_setQueue ?_
      simp only [replaceAssign, List.any_map]
      refine congrArg (List.any _) (funext fun e => ?_)
      rcases e with ⟨_ | _ | _ | _ | _, _⟩ <;> rfl
    · split
      · exact restartDue_place rfl
      · rfl
  unfold assignEnd
  split
  · split
    · exact offered _ _ _
    · exact (offered _ _ _).trans rfl
  · rfl

/-- The frame arriving on p has ended GOOD: the receiver has moved on and the end is counted. -/
def goodEnded (p : Port) (s : State) : State := (s.setRx p (afterEnd (s.rx.get p))).bumpPort p (countedEnd .good)

theorem exec_receiveEof_closed (h : AtGoodEof p s) (hclosed : closeFlight p .good (goodEnded p s) = t) :
    exec (.receiveEof p) s = .next (settleRestart (joinCheck (agentEnd p .good t))) := by
  rw [exec_receiveEof_of_goodEof h, frameEnd_good_eof, ← hclosed]
  rfl

section
variable (h : AtGoodEof p s) (hrelay : s.relay ≠ .bypass) {w : RelayPath}
  (hclosed : closeFlight p .good (goodEnded p s) = (goodEnded p s).setPath (dirIn p) w)
  (hinbox : s.inbox.get p = some x)
include h hrelay hclosed hinbox

/-- R46, R135: in the line the GOOD end of a request is its row on the state in which the frame is closed. -/
theorem exec_receiveEof_of_request {copy : Bool} (hkind : x.kind = .request copy) (hpayload : x.payload = code :: ps) :
    exec (.receiveEof p) s = exec (.unknownRequest { port := p, src := x.src, seq := x.seq, copy := copy } code ps)
      (((goodEnded p s).setPath (dirIn p) w).setInbox p none) := by
  have kept := pathKept_agentRequest (p := p) (e := { port := p, src := x.src, seq := x.seq, copy := copy })
    (pathSafe_handlerOf code ps) code (((goodEnded p s).setPath (dirIn p) w).setInbox p none)
  obtain ⟨hreset, -⟩ := id h
  rw [exec_receiveEof_closed h hclosed, agentEnd_of_request (by exact hinbox) hkind hpayload, kept.joinCheck_of_inLine hrelay]
  exact (if_neg (show ¬s.resetPin = true by rw [hreset]; decide)).symm

/-- R149: in the line the GOOD end of an enumeration frame is its row. -/
theorem exec_receiveEof_of_assign {n : Byte} {rest : List Byte} (hkind : x.kind = .assign) (hpayload : x.payload = n :: rest)
    (hw : w.tx = (s.paths.get (dirIn p)).tx) :
    exec (.receiveEof p) s = exec (.assign p n) (((goodEnded p s).setPath (dirIn p) w).setInbox p none) := by
  have kept := pathKept_assignEnd (p := p) p n (((goodEnded p s).setPath (dirIn p) w).setInbox p none)
  obtain ⟨hreset, hdue, -⟩ := id h
  have closedDue : restartDue (((goodEnded p s).setPath (dirIn p) w).setInbox p none) = restartDue s :=
    restartDue_eq rfl rfl (PerDir.map_get_set (fun y : RelayPath => y.tx.isNamed) s.paths (congrArg Tx.isNamed hw))
  rw [exec_receiveEof_closed h hclosed, agentEnd_of_assign (by exact hinbox) hkind hpayload, kept.joinCheck_of_inLine hrelay,
    settleRestart_of_not_due ((restartDue_assignEnd ..).trans (closedDue.trans hdue))]
  exact (if_neg (show ¬s.resetPin = true by rw [hreset]; decide)).symm

end

/-! ### In BYPASS -/

theorem agentRequest_of_bypass {f : Handler} {e : Envelope} (hrelay : s.relay = .bypass) (h : ¬(e.copy = true ∧ code ≠ 0x01)) :
    agentRequest f code e s = s.bumpAgent (fun c => { c with discardedBypass := satInc c.discardedBypass }) := by
  rw [agentRequest, if_neg h, if_pos (by rw [hrelay]; rfl)]

theorem assignEnd_of_bypass (hrelay : s.relay = .bypass) (n : Byte) :
    assignEnd p n s = s.bumpAgent (fun c => { c with discardedBypass := satInc c.discardedBypass }) :=
  if_neg (by rw [hrelay]; decide)

/-- R135: the agent discards and counts the end of a frame it would have taken. -/
theorem agentEnd_of_bypass (hrelay : s.relay = .bypass) (hinbox : s.inbox.get p = some x) (hpayload : x.payload = code :: ps)
    (hkind : x.kind = .request false ∨ x.kind = .assign ∨ x.kind = .request true ∧ code = 0x01) :
    agentEnd p .good s
      = (s.setInbox p none).bumpAgent (fun c => { c with discardedBypass := satInc c.discardedBypass }) := by
  rcases hkind with hk | hk | ⟨hk, hcode⟩
  · rw [agentEnd_of_request hinbox hk hpayload, agentRequest_of_bypass (by exact hrelay) (by simp)]
  · rw [agentEnd_of_assign hinbox hk hpayload, assignEnd_of_bypass (by exact hrelay)]
  · rw [agentEnd_of_request hinbox hk hpayload, agentRequest_of_bypass (by exact hrelay) (by simp [hcode])]

/-- R26: in BYPASS the end leaves what the agent leaves, and may bring JOINING about. -/
theorem exec_receiveEof_of_bypass (h : AtGoodEof p s) (hflight : (s.paths.get (dirIn p)).flight = none)
    (hagent : agentEnd p .good (goodEnded p s) = t) (ht : t = { goodEnded p s with
      inbox := t.inbox, agentStats := t.agentStats }) :
    exec (.receiveEof p) s = .next (joinedAfterEnd p s t) := by
  obtain ⟨-, hdue, hsynced, -⟩ := id h
  have joined : joinCheck t = joinedAfterEnd p s t := by
    rw [ht]
    exact joinCheck_of_gap hsynced (by simp [goodEnded, afterEnd]) rfl rfl (PerPort.get_set_otherPort ..)
  have due : restartDue t = false := by
    rw [ht]
    exact hdue
  rw [exec_receiveEof_closed h (closeFlight_of_none (by exact hflight)), hagent, joined,
    settleRestart_of_not_due ((restartDue_joinedAfterEnd ..).trans due)]

end

/-- Settles O24: in the line the frame is closed and its row follows; in BYPASS the agent discards it. -/
theorem frameEndRunsTheRequest : Obligations.FrameEndRunsTheRequest := by
  refine ⟨fun p s f src seq hend hrelay hflight => ?inLine, fun p s x code ps hend hrelay hflight hinbox hpayload => ?bypass⟩
  case inLine =>
    intro path closed
    refine ⟨fun code ps hverdict hinbox => ?request, fun code ps fs x hverdict hcommit hinbox hstore => ?copy,
      fun n rest hverdict hinbox => ?assign⟩
    case request =>
      exact exec_receiveEof_of_request hend hrelay
        (closeFlight_of_consumed (s := goodEnded p s) hflight (.inl hverdict)) hinbox rfl rfl
    case copy =>
      exact exec_receiveEof_of_request hend hrelay
        (closeFlight_of_no_commit (s := goodEnded p s) hflight hverdict hstore hcommit) hinbox rfl rfl
    case assign =>
      exact exec_receiveEof_of_assign hend hrelay
        (closeFlight_of_consumed (s := goodEnded p s) hflight (.inr hverdict)) hinbox rfl rfl rfl
  case bypass =>
    intro closed
    refine ⟨fun hkind => ?discarded, fun hkind hcode => ?ignored⟩
    case discarded =>
      exact exec_receiveEof_of_bypass hend hflight
        (agentEnd_of_bypass (s := goodEnded p s) hrelay hinbox hpayload hkind) rfl
    case ignored =>
      refine exec_receiveEof_of_bypass hend hflight ?_ rfl
      rw [agentEnd_of_request (s := goodEnded p s) hinbox hkind hpayload, agentRequest, if_pos ⟨rfl, hcode⟩]
      rfl

end Sys2Proof.Machine
end

section
/-! SUPPORT of the match table's statements: what every operation keeps of the match engine (R55, R56, R65) and of the ranges (R155, R20,
R47, R34). An operation is steady, or it is the run of a request; of the requests BANK-SWAP alone changes which bank is active. -/

namespace Sys2Proof.Machine

/-! ## What an operation keeps of the match engine -/

theorem BankId.other_ne (k : BankId) : k.other ≠ k := by cases k <;> decide

theorem BankId.eq_or_eq_other (k j : BankId) : j = k ∨ j = k.other := by
  cases k <;> cases j <;> decide

@[simp] theorem MatchEngine.setBank_selector (m : MatchEngine) (k : BankId) (b : Bank) :
    (m.setBank k b).selector = m.selector := by cases k <;> rfl

@[simp] theorem MatchEngine.setBank_stagingGen (m : MatchEngine) (k : BankId) (b : Bank) :
    (m.setBank k b).stagingGen = m.stagingGen := by cases k <;> rfl

@[simp] theorem MatchEngine.setBank_incomplete (m : MatchEngine) (k : BankId) (b : Bank) :
    (m.setBank k b).incomplete = m.incomplete := by cases k <;> rfl

@[simp] theorem MatchEngine.setBank_copy (m : MatchEngine) (k : BankId) (b : Bank) : (m.setBank k b).copy = m.copy := by
  cases k <;> rfl

theorem MatchEngine.bank_setBank_self (m : MatchEngine) (k : BankId) (b : Bank) : (m.setBank k b).bank k = b := by
  cases k <;> rfl

theorem MatchEngine.bank_setBank_of_ne (m : MatchEngine) {j k : BankId} (b : Bank) (h : j ≠ k) :
    (m.setBank j b).bank k = m.bank k := by
  cases j with
  | zero =>
    cases k with
    | zero => exact absurd rfl h
    | one => rfl
  | one =>
    cases k with
    | zero => rfl
    | one => exact absurd rfl h

theorem Bank.getElem_set (b : Bank) (i j : Fin 64) (e : Entry) : (b.set i e)[j] = if i = j then e else b[j] := by
  simp only [Fin.getElem_fin, Vector.getElem_set, Fin.ext_iff]

/-- R56, R57: the fields of every entry of both banks fit together. -/
def MatchEngine.Fits (m : MatchEngine) : Prop := ∀ (k : BankId) (i : Fin 64), (m.bank k)[i].fits

theorem tableOk_iff_fits {s : State} : TableOk s ↔ s.engine.Fits := Iff.rfl

/-- The hit count is none of the fields that must fit together. -/
theorem Entry.fits_of_contents {x y : Entry} (h : x.contents = y.contents) (hy : y.fits) : x.fits := by
  have fits : y.contents.fits := hy
  rw [← h] at fits
  exact fits

theorem Entry.cleared_fits : Entry.cleared.fits := ⟨rfl, nofun, nofun, nofun⟩

/-- R65, R66: the same bank is active, the contents of its entries stand, and entries that fit still do. -/
structure MatchEngine.Keeps (m n : MatchEngine) : Prop where
  selector : n.selector = m.selector
  active   : ∀ i : Fin 64, n.active[i].contents = m.active[i].contents
  fits     : m.Fits → n.Fits

namespace MatchEngine.Keeps

variable {m n k : MatchEngine}

theorem refl (m : MatchEngine) : m.Keeps m := ⟨rfl, fun _ => rfl, id⟩

theorem of_eq (h : n = m) : m.Keeps n := h ▸ refl m

theorem trans (h : m.Keeps n) (h' : n.Keeps k) : m.Keeps k where
  selector := h'.selector.trans h.selector
  active i := (h'.active i).trans (h.active i)
  fits hm := h'.fits (h.fits hm)

/-- The active bank's contents stand, and what has come into the staging bank fits. -/
theorem of_banks (hselector : n.selector = m.selector) (hactive : ∀ i : Fin 64, n.active[i].contents = m.active[i].contents)
    (hstaging : m.Fits → ∀ i : Fin 64, n.staging[i].fits) : m.Keeps n where
  selector := hselector
  active := hactive
  fits hm j i := by
    obtain rfl | rfl := BankId.eq_or_eq_other n.selector j
    · exact Entry.fits_of_contents (hactive i) (hm _ i)
    · exact hstaging hm i

/-- R66: the staging bank may be replaced by one whose entries fit, whatever becomes of its generation, its mark and the copy. -/
theorem of_staging {b : Bank} (hb : m.Fits → ∀ i : Fin 64, b[i].fits) (gen : Half) (mark : Bool) (copy : CopyState) :
    m.Keeps { m.setBank m.selector.other b with stagingGen := gen, incomplete := mark, copy := copy } := by
  refine of_banks (m.setBank_selector _ b) (fun i => ?_) fun hm i => ?_
  · change ((m.setBank m.selector.other b).bank (m.setBank m.selector.other b).selector)[i].contents = _
    rw [setBank_selector, bank_setBank_of_ne m b m.selector.other_ne]
    rfl
  · change ((m.setBank m.selector.other b).bank (m.setBank m.selector.other b).selector.other)[i].fits
    rw [setBank_selector, bank_setBank_self]
    exact hb hm i

end MatchEngine.Keeps

section
variable (m : MatchEngine)

/-- R63: a hit changes an entry's count alone. -/
theorem MatchEngine.keeps_hit (i : Fin 64) : m.Keeps (m.hit i) := by
  refine .of_banks (m.setBank_selector _ _) (fun j => ?_) fun hm j => ?_
  · rw [MatchEngine.active, hit, setBank_selector, bank_setBank_self, Bank.getElem_set]
    split
    · subst j
      rfl
    · rfl
  · rw [MatchEngine.staging, hit, setBank_selector, bank_setBank_of_ne m _ m.selector.other_ne.symm]
    exact hm _ j

/-- One entry of the staging bank is replaced by one that fits. -/
theorem MatchEngine.fits_set_staging {i : Fin 64} {e : Entry} (he : m.Fits → e.fits) (hm : m.Fits) (j : Fin 64) :
    (m.staging.set i e)[j].fits := by
  rw [Bank.getElem_set]
  split
  · exact he hm
  · exact hm _ j

theorem MatchEngine.keeps_writeStaging (i : Fin 64) {e : Entry} (he : e.fits) : m.Keeps (m.writeStaging i e) :=
  .of_staging (m.fits_set_staging fun _ => he) _ _ _

theorem MatchEngine.keeps_clearStaging : m.Keeps m.clearStaging := by
  refine .of_staging (fun _ i => ?_) _ _ _
  rw [Fin.getElem_fin, Vector.getElem_replicate]
  exact Entry.cleared_fits

theorem MatchEngine.keeps_copyEntry (i : Fin 64) (copy : CopyState) : m.Keeps { m.copyEntry i with copy := copy } :=
  .of_staging (m.fits_set_staging (i := i) (e := { m.active[i] with hits := 0 }) fun hm => hm m.selector i) _ _ _

theorem MatchEngine.keeps_finishCopy : m.Keeps m.finishCopy := by
  refine .of_staging (fun hm i => ?_) _ _ _
  rw [getElem_mapVec]
  exact hm m.selector i

theorem MatchEngine.keeps_startCopy (copy : CopyState) : m.Keeps { m with copy := copy } :=
  .of_banks rfl (fun _ => rfl) fun hm => hm _

theorem zeroHits_contents (b : Bank) (i : Fin 64) : (zeroHits b)[i].contents = b[i].contents := by
  rw [zeroHits, getElem_mapVec]
  rfl

/-- R71, R76: a restart sets hit counts to 0. -/
theorem MatchEngine.keeps_restartEngine : m.Keeps (restartEngine m) := by
  have zeroed (k : BankId) (i : Fin 64) : ((restartEngine m).bank k)[i].contents = (m.bank k)[i].contents := by
    cases k <;> exact zeroHits_contents _ i
  exact .of_banks rfl (zeroed _) fun hm i => Entry.fits_of_contents (zeroed _ i) (hm _ i)

/-- R74: a swap brings no entry into either bank. -/
theorem MatchEngine.fits_swap (h : m.Fits) : m.swap.Fits := h

end

/-! ## What a steady operation keeps -/

/-- An operation under which the active bank, its entries' contents and the ranges stand. -/
structure Steady (s t : State) : Prop where
  engine : s.engine.Keeps t.engine
  ranges : RangesOk s → RangesOk t

namespace Steady

variable {s t u : State}

theorem refl (s : State) : Steady s s := ⟨.refl _, id⟩

theorem of_eq (h : t = s) : Steady s t := h ▸ refl s

theorem trans (h : Steady s t) (k : Steady t u) : Steady s u := ⟨h.engine.trans k.engine, fun hs => k.ranges (h.ranges hs)⟩

/-- An operation that touches neither the match engine nor what has a range. -/
theorem of_apart (h : t = { t with
    engine := s.engine, settings := s.settings, ports := s.ports, paths := s.paths, divider := s.divider, due := s.due }) :
    Steady s t := by
  rw [h]
  exact ⟨.refl _, fun hs => { hs with }⟩

theorem of_engine {m : MatchEngine} (h : s.engine.Keeps m) : Steady s { s with engine := m } := ⟨h, fun hs => { hs with }⟩

theorem of_ports {x : PerPort PortBlock}
    (h : RangesOk s → ∀ p, (x.get p).bucket < (s.settings.bucketLimit.get p).toNat) : Steady s { s with ports := x } :=
  ⟨.refl _, fun hs => { hs with bucket := h hs }⟩

theorem of_paths {w : PerDir RelayPath} (h : ∀ d, (s.paths.get d).highWater ≤ 96 → (w.get d).highWater ≤ 96) :
    Steady s { s with paths := w } :=
  ⟨.refl _, fun hs => { hs with highWater := fun d => h d (hs.highWater d) }⟩

theorem foldl {α : Type} {f : State → α → State} (hf : ∀ s a, Steady s (f s a)) (l : List α) (s : State) :
    Steady s (l.foldl f s) := by
  induction l generalizing s with
  | nil => exact refl s
  | cons a l ih => exact (hf s a).trans (ih _)

end Steady

/-! ## The updates of one place -/

section
variable {s : State} {p : Port}

theorem steady_setPort {v : PortBlock} (h : RangesOk s → v.bucket < (s.settings.bucketLimit.get p).toNat) :
    Steady s (s.setPort p v) := by
  refine .of_ports fun hs q => ?_
  rw [PerPort.get_set]
  split
  · subst q
    exact h hs
  · exact hs.bucket q

/-- A port whose bucket stands, or falls. -/
theorem steady_setPort_of_le {v : PortBlock} (h : v.bucket ≤ (s.ports.get p).bucket) : Steady s (s.setPort p v) :=
  steady_setPort fun hs => lt_of_le_of_lt h (hs.bucket p)

theorem steady_setPath {d : Dir} {w : RelayPath} (h : (s.paths.get d).highWater ≤ 96 → w.highWater ≤ 96) :
    Steady s (s.setPath d w) := by
  refine .of_paths fun e hs => ?_
  rw [PerDir.get_set]
  split
  · subst e
    exact h hs
  · exact hs

/-- R47: the high-water mark follows a rise up to 96 [log 14]. -/
theorem steady_setStore (d : Dir) (fs : List StoredFrame) : Steady s (s.setStore d fs) := steady_setPath raiseMark_le

/-! ## Queues, events, slots and the owner -/

theorem steady_place (p : Port) (b : EntryBody) (s : State) : Steady s (place p b s) := by
  rw [place_frame]
  exact .of_apart rfl

theorem steady_offerNotice (s : State) : Steady s (offerNotice s) := by
  rw [offerNotice_frame]
  exact .of_apart rfl

theorem steady_addEvent (bit : BitVec 34) (s : State) : Steady s (addEvent bit s) := by
  rw [addEvent_frame]
  exact .of_apart rfl

theorem steady_lapse (n : Fin 32) (s : State) : Steady s (lapse n s) := by
  rw [lapse_frame]
  exact .of_apart rfl

theorem steady_clearOwner (s : State) : Steady s (clearOwner s) := by
  rw [clearOwner_frame]
  exact .of_apart rfl

theorem steady_setLatch (s : State) : Steady s (setLatch s) := by
  unfold setLatch
  split
  · rw [relayToFallback_frame]
    exact .of_apart rfl
  · exact .of_apart rfl

theorem steady_expireLease (o : Owner) (s : State) : Steady s (expireLease o s) := by
  unfold expireLease
  split
  · exact steady_clearOwner s
  · exact (steady_clearOwner s).trans (steady_setLatch _)

theorem steady_settleExpiry (s : State) : Steady s (settleExpiry s) := by
  unfold settleExpiry
  split
  · rw [enterFallback_frame]
    exact .of_apart rfl
  · rw [enterRelay_frame]
    exact .of_apart rfl

/-! ## The path of a frame -/

theorem steady_endVerdict (p : Port) (cls : EndClass) (f : InFlight) (s : State) : Steady s (endVerdict p cls f s) := by
  have committed (t : State) : Steady t (endCommit p cls f t) := by
    rw [endCommit_frame]
    exact .of_apart rfl
  unfold endVerdict
  split
  · exact (steady_setStore _ _).trans (committed _)
  · exact committed s
  · split
    · rw [pollEnd_frame]
      exact .of_apart rfl
    · exact .refl s
  all_goals exact .refl s

theorem steady_closeFlight (p : Port) (cls : EndClass) (s : State) : Steady s (closeFlight p cls s) := by
  unfold closeFlight
  split
  · exact .refl s
  · exact (steady_endVerdict p cls _ s).trans (steady_setPath id)

theorem steady_relayByte (p : Port) (b : Byte) (payload : Bool) (s : State) : Steady s (relayByte p b payload s) := by
  have taken (t : State) : Steady t (inboxByte p b payload t) := by
    unfold inboxByte
    split
    · exact .refl t
    · split <;> exact .of_apart rfl
  refine .trans ?_ (taken _)
  unfold pathByte
  split
  · exact .refl s
  · dsimp only
    split
    · refine .trans ?_ (steady_setStore _ _)
      exact steady_setPath id
    · exact steady_setPath id

theorem steady_pollTest (p : Port) (h : Header) (n : Fin 32) (x : AnswerSlot) (s : State) :
    Steady s (pollTest p h n x s).1 := by
  unfold pollTest reserve
  rw [place_frame]
  repeat' split
  all_goals exact .of_apart rfl

theorem steady_entryDecision (p : Port) (h : Header) (i : Fin 64) (e : Entry) (s : State) :
    Steady s (entryDecision p h i e s).1 := by
  unfold entryDecision
  split
  case h_7 =>
    split
    · rename_i n _ _ _ x _
      have tested := steady_pollTest p h n x s
      split
      all_goals
        rename_i hpoll
        rw [hpoll] at tested
        exact tested
    · exact .of_apart rfl
  case h_1 | h_2 | h_3 => exact .of_apart rfl
  all_goals split <;> exact .of_apart rfl

/-- R63, R39: the deciding entry counts a hit, and its outcome leaves the table. -/
theorem steady_matchDecision (p : Port) (h : Header) (s : State) : Steady s (matchDecision p h s).1 := by
  unfold matchDecision defaultDecision
  split
  · split <;> exact .of_apart rfl
  · exact (Steady.of_engine (s.engine.keeps_hit _)).trans (steady_entryDecision _ _ _ _ _)

theorem steady_decideHeader (p : Port) (h : Header) (s : State) : Steady s (decideHeader p h s).1 := by
  have matched : Steady s (if s.relay = .relay then matchDecision p h s else (s, plainDecision .forward .none)).1 := by
    split
    · exact steady_matchDecision p h s
    · exact .refl s
  unfold decideHeader mgmtDecision
  split
  · repeat' split
    all_goals exact .of_apart rfl
  · exact .refl s
  · exact .of_apart rfl
  · exact .of_apart rfl
  all_goals exact matched

theorem steady_headerReport (p : Port) (h : Header) (now : Wide) (s : State) : Steady s (headerReport p h now s) := by
  unfold headerReport
  split
  · refine (steady_decideHeader p h s).trans ?_
    unfold holdHeader
    dsimp only
    split
    · refine .trans ?_ (steady_setStore _ _)
      exact steady_setPath id
    · exact steady_setPath id
  · unfold undecidedHeader
    split <;> exact .of_apart rfl

/-! ## A port's way out of the line, and back (R12, R17, R20, R28) -/

theorem steady_cutFrame (p : Port) (s : State) : Steady s (cutFrame p s) := by
  unfold cutFrame
  split
  · exact .refl s
  · exact (steady_closeFlight p .aborted s).trans (.of_apart rfl)

theorem steady_enterBypass (s : State) : Steady s (enterBypass s) := by
  have cut (q : Port) (t : State) : Steady t (cutOutput q t) := by
    unfold cutOutput
    refine .trans ?_ (.of_apart rfl)
    exact steady_setPath id
  have left := (cut .a s).trans (cut .b _)
  unfold enterBypass
  generalize cutOutput .b (cutOutput .a s) = t at left
  exact left.trans (.of_apart rfl)

theorem steady_leaveSynced (ps : List Port) (s : State) : Steady s (leaveSynced ps s) := by
  rw [leaveSynced_eq]
  refine .trans (.foldl (fun t p => steady_cutFrame p t) ps s) ?_
  unfold outOfLine
  split
  · exact .refl _
  · exact steady_enterBypass _

/-- R17: a port enters FAULT with its bucket empty. -/
theorem steady_setFault (p : Port) (s : State) : Steady s (setFault p s) := by
  refine .trans (steady_setPort (v := faultedPort) fun hs => ?_) (.of_apart rfl)
  have := hs.limit p
  simp only [faultedPort]
  omega

/-- What follows in the event in which ports have entered FAULT. -/
theorem steady_after_faults (ps : List Port) (s : State) :
    Steady (ps.foldl (fun t p => setFault p t) s) (enterFault ps s) :=
  (steady_leaveSynced ps _).trans (.foldl (fun t p => steady_addEvent (portBit p) t) ps _)

theorem steady_enterFault (ps : List Port) (s : State) : Steady s (enterFault ps s) :=
  (Steady.foldl (fun t p => steady_setFault p t) ps s).trans (steady_after_faults ps s)

/-- R20: a bucket that reaches its limit takes the port to FAULT. -/
theorem steady_bucketAdd (p : Port) (n : Nat) (s : State) : Steady s (bucketAdd p n s) := by
  unfold bucketAdd
  split
  · exact .refl s
  · split
    · exact steady_enterFault [p] s
    · exact steady_setPort fun _ => not_le.mp ‹_›

theorem steady_compareLimits (s : State) : Steady s (compareLimits s) := by
  unfold compareLimits
  split
  · exact .refl s
  · exact steady_enterFault _ s

theorem steady_joinCheck (s : State) : Steady s (joinCheck s) := by
  unfold joinCheck
  split <;> exact .of_apart rfl

theorem steady_startSync (p : Port) (s : State) : Steady s (startSync p s) := by
  refine .trans ?_ (steady_addEvent _ _)
  exact steady_setPort_of_le le_rfl

theorem steady_releasePort (p : Port) (s : State) : Steady s (releasePort p s) := by
  unfold releasePort
  split
  · exact steady_startSync p s
  · exact .refl s

theorem steady_portSynced (p : Port) (s : State) : Steady s (portSynced p s) := by
  unfold portSynced
  refine .trans ?_ (.trans (steady_joinCheck _) (steady_addEvent _ _))
  refine .trans (t := s.setPort p { s.ports.get p with state := .synced, syncIdle := 0 }) ?_ (.of_apart rfl)
  exact steady_setPort_of_le le_rfl

theorem steady_coolDownEnd (p : Port) (s : State) : Steady s (coolDownEnd p s) := by
  refine .trans ?_ (steady_addEvent _ _)
  exact steady_setPort_of_le le_rfl

theorem steady_loseSignal (p : Port) (s : State) : Steady s (loseSignal p s) := by
  have down : Steady s (s.setPort p { s.ports.get p with state := .down, syncIdle := 0, coolDown := none }) :=
    steady_setPort_of_le le_rfl
  unfold loseSignal
  refine .trans ?_ (steady_addEvent _ _)
  split
  · exact down.trans (steady_leaveSynced [p] _)
  · exact down

theorem restartPath_highWater (x : RelayPath) : (restartPath x).highWater = 0 := by
  unfold restartPath
  split <;> rfl

/-- R170: a restart empties the buckets and the high-water marks, and keeps the table and the settings. -/
theorem steady_restartBegin (s : State) : Steady s (restartBegin s) where
  engine := s.engine.keeps_restartEngine
  ranges hs := { hs with
    bucket := fun p => by
      have := hs.limit p
      cases p <;> simp only [restartBegin, PerPort.get, restartPort] at this ⊢ <;> omega
    highWater := fun d => by cases d <;> exact (restartPath_highWater _).trans_le (Nat.zero_le 96) }

theorem steady_settleRestart (s : State) : Steady s (settleRestart s) := by
  obtain ⟨-, hs⟩ | ⟨-, hs⟩ := settleRestart_cases s
  · rw [hs]
    exact .refl s
  · rw [hs]
    exact steady_restartBegin s

end

end Sys2Proof.Machine
end

section
/-! SUPPORT of the match table's statements: the outputs, the ticks and a running copy are steady; what the run of a request does to the
table and the ranges. -/

namespace Sys2Proof.Machine

/-! ## The outputs -/

section
variable {s : State} {p : Port}

theorem steady_startEntry (p : Port) (b : EntryBody) (s : State) : Steady s (startEntry p b s) := by
  have started (bytes : List Byte) (named : Bool) (t : State) : Steady t (startInjection p bytes named t) := steady_setPath id
  cases b with
  | answer | mreply | assign => exact started _ _ s
  | notice =>
    refine .trans ?_ (started _ _ _)
    exact .of_apart rfl
  | beacon n =>
    simp only [startEntry, moveBeacon]
    split
    · refine .trans ?_ (started _ _ _)
      exact .of_apart rfl
    · exact started _ _ s

theorem steady_moveOut (p : Port) (x : QEntry) (rest : List QEntry) (s : State) : Steady s (moveOut p x rest s) := by
  unfold moveOut
  rw [countInjected_frame]
  refine .trans (.trans ?_ (steady_startEntry p x.body _)) (.of_apart rfl)
  exact .of_apart rfl

theorem steady_moveOutFrom (x : Source) (p : Port) (s : State) : Steady s (moveOutFrom x p s) := by
  unfold moveOutFrom
  split
  · split
    · split
      · exact steady_moveOut p _ _ s
      · exact .refl s
    · exact .refl s
  · exact .refl s

theorem steady_startThrough (p : Port) (s : State) : Steady s (startThrough p s) := steady_setPath id

theorem steady_arbitrate (p : Port) (s : State) : Steady s (arbitrate p s) := by
  unfold arbitrate
  split
  · exact steady_startThrough p s
  · split
    · split
      · exact steady_moveOut p _ _ s
      · exact .refl s
    · exact .refl s

theorem steady_sendSymbol (p : Port) (x : Symbol) (tx : Tx) (s : State) : Steady s (sendSymbol p x tx s) := steady_setPath id

theorem steady_sendPlace (p : Port) (s : State) : Steady s (sendPlace p s) := by
  have sent (x : Symbol) (tx : Tx) (fs : List StoredFrame) :
      Steady s ((sendSymbol p x tx s).setStore (dirOut p) fs) := (steady_sendSymbol p x tx s).trans (steady_setStore _ fs)
  unfold sendPlace
  split
  · exact sent _ _ _
  · unfold sendMark
    split <;> exact (sent _ _ _).trans (.of_apart rfl)
  · exact .refl s
  · exact .refl s

theorem steady_sendNext (p : Port) (s : State) : Steady s (sendNext p s) := by
  unfold sendNext
  split
  case h_3 => exact steady_sendPlace p s
  all_goals exact steady_sendSymbol _ _ _ s

theorem steady_sendInBypass (p : Port) (s : State) : Steady s (sendInBypass p s) := by
  unfold sendInBypass
  refine .trans ?_ (.of_apart rfl)
  split
  · exact steady_sendSymbol _ _ _ s
  · exact steady_setPath id

theorem steady_transmit (p : Port) (s : State) : Steady s (transmit p s) := by
  unfold transmit
  split
  · exact steady_sendInBypass p s
  · exact steady_sendNext p s
  · exact (steady_arbitrate p s).trans (steady_sendNext p _)
  · exact (steady_arbitrate p s).trans (steady_sendNext p _)

/-! ## The ticks and the timers -/

theorem steady_ageOut (p : Port) (s : State) : Steady s (ageOut p s) := by
  rw [ageOut_frame]
  exact .of_apart rfl

theorem steady_fireBeacon (n : Fin 32) (s : State) : Steady s (fireBeacon n s) := by
  rw [fireBeacon_frame]
  exact .of_apart rfl

theorem steady_fireBeacons (c : Nat) (due : List (Fin 32)) (s : State) : Steady s (fireBeacons c due s) := by
  rw [fireBeacons_frame]
  exact .of_apart rfl

theorem steady_agedOut (s : State) : Steady s (agedOut s) := by
  rw [agedOut_frame]
  exact .of_apart rfl

theorem steady_tickSettle (s : State) : Steady s (tickSettle s) := by
  rw [tickSettle_frame]
  exact .of_apart rfl

theorem steady_tickCoolDown (p : Port) (s : State) : Steady s (tickCoolDown p s) := by
  unfold tickCoolDown
  split
  · exact .refl s
  · split
    · exact steady_coolDownEnd p s
    · exact steady_setPort_of_le le_rfl

/-- R20: a bucket falls. -/
theorem steady_countTick (s : State) : Steady s (countTick s) := by
  refine .trans (t := { s with ports := (countTick s).ports }) (.of_ports fun hs p => ?_) (.of_apart rfl)
  rw [countTick_ports]
  exact lt_of_le_of_lt (Nat.sub_le _ _) (hs.bucket p)

theorem steady_tick1ms (s : State) : Steady s (tick1ms s) := by
  refine tick1ms_stages (P := Steady s) (Q := Steady s) ?start (fun t k h => ?chosen)
    (fun c due t h => h.trans (steady_fireBeacons c due t)) (fun t h => h.trans (steady_tickSettle t))
    (fun t h => h.trans (steady_agedOut t)) (fun c due t h => h.trans (steady_fireBeacons c due t))
  case start => exact (steady_countTick s).trans ((steady_tickCoolDown .a _).trans (steady_tickCoolDown .b _))
  case chosen => exact h.trans (.of_apart rfl)

/-- R34: a tick taken is no longer due. -/
theorem steady_due {d : DueTicks} (h1 : d.one = true → s.due.one = true) (h10 : d.ten = true → s.due.ten = true)
    (h100 : d.hundred = true → s.due.hundred = true) : Steady s { s with due := d } :=
  ⟨.refl _, fun hs => { hs with
    due1 := fun h => hs.due1 (h1 h)
    due10 := fun h => hs.due10 (h10 h)
    due100 := fun h => hs.due100 (h100 h) }⟩

theorem steady_takeTick1 (s : State) : Steady s (takeTick1 s) := by
  unfold takeTick1
  split
  · refine (steady_due (d := { s.due with one := false }) nofun id id).trans ?_
    exact (steady_tick1ms _).trans (steady_settleRestart _)
  · exact .refl s

theorem steady_takeTick10 (s : State) : Steady s (takeTick10 s) := by
  unfold takeTick10
  split
  · refine (steady_due (d := { s.due with ten := false }) id nofun id).trans ?_
    rw [tick10ms_frame, tickHolds, foldl_lapse_frame]
    exact .of_apart rfl
  · exact .refl s

theorem steady_takeTick100 (s : State) : Steady s (takeTick100 s) := by
  unfold takeTick100 tick100ms
  split
  · refine (steady_due (d := { s.due with hundred := false }) id id nofun).trans ?_
    split
    · exact .refl _
    · split
      · exact steady_expireLease _ _
      · exact .of_apart rfl
  · exact .refl s

/-- R34: the divider wraps at 100 ms, and a tick falls only where its position brings it. -/
theorem steady_countMicrosecond (s : State) : Steady s (countMicrosecond s) where
  engine := .refl _
  ranges hs := { hs with
    divider := Nat.mod_lt _ (by decide)
    due1 := of_decide_eq_true
    due10 := of_decide_eq_true
    due100 := of_decide_eq_true }

theorem steady_advanceTime (s : State) : Steady s (advanceTime s) :=
  (steady_takeTick1 s).trans ((steady_takeTick10 _).trans ((steady_takeTick100 _).trans (steady_countMicrosecond _)))

/-! ## A running copy -/

theorem steady_completeCopy (s : State) : Steady s (completeCopy s) := by
  unfold completeCopy fillHeldPlace
  split
  · exact .refl s
  · refine (Steady.of_engine s.engine.keeps_finishCopy).trans ?_
    split <;> exact .of_apart rfl

theorem steady_advanceCopy (s : State) : Steady s (advanceCopy s) := by
  unfold advanceCopy
  split
  · exact .refl s
  · split
    · have copied (i : Fin 64) (c : CopyState) : Steady s { s with engine := { s.engine.copyEntry i with copy := c } } :=
        .of_engine (s.engine.keeps_copyEntry i c)
      dsimp only
      split
      · exact (copied _ _).trans (steady_completeCopy _)
      · exact copied _ _
    · exact steady_completeCopy s

end

/-! ## The run of a request -/

/-- What an operation does that a request may be: it is steady but for a swap of the banks, which `w` allows. The ranges are those of a
part outside BYPASS only with both ports SYNCED (R25). -/
structure Moved (w : Prop) (s t : State) : Prop where
  engine : s.engine.Keeps t.engine ∨ w ∧ s.engine.swap.Keeps t.engine
  ranges : (s.relay ≠ .bypass → s.ports.a.state = .synced ∧ s.ports.b.state = .synced) → RangesOk s → RangesOk t

section
variable {w : Prop} {s t u : State}

theorem Steady.moved (h : Steady s t) : Moved w s t := ⟨.inl h.engine, fun _ => h.ranges⟩

theorem Moved.trans (h : Moved w s t) (k : Steady t u) : Moved w s u where
  engine := h.engine.imp (fun he => he.trans k.engine) (And.imp_right fun he => he.trans k.engine)
  ranges hsynced hs := k.ranges (h.ranges hsynced hs)

theorem Moved.imp {w' : Prop} (h : Moved w s t) (hw : w → w') : Moved w' s t :=
  ⟨h.engine.imp_right (And.imp_left hw), h.ranges⟩

/-- What comes before in the event leaves the table, the relay state and the ports as they were. -/
theorem Moved.of_before (h : Moved w t u) (hs : Steady s t)
    (ht : t = { t with engine := s.engine, relay := s.relay, ports := s.ports }) : Moved w s u where
  engine := by
    have engine := h.engine
    rwa [show t.engine = s.engine by rw [ht]] at engine
  ranges hsynced hranges := h.ranges (by rw [ht]; exact hsynced) (hs.ranges hranges)

/-- R137: the answer to a request is queued, recorded and counted. -/
theorem finishRequest_frame (e : Envelope) (code : Byte) (a : Answer) (s : State) : finishRequest e code a s = { s with
    queues := (finishRequest e code a s).queues, cache := (finishRequest e code a s).cache
    agentStats := (finishRequest e code a s).agentStats } := by
  have recorded (reply : Option (List Byte)) (t : State) :
      recordRequest e reply t = { t with cache := (recordRequest e reply t).cache } := by
    unfold recordRequest
    split <;> rfl
  have counted (st : Status) (t : State) : countAnswer st t = { t with agentStats := (countAnswer st t).agentStats } := by
    unfold countAnswer
    split <;> rfl
  cases a with
  | reply => rw [finishRequest, counted, recorded, placeReply, place_frame]
  | copyStarted => rw [finishRequest, counted, recorded]

theorem steady_finishRequest (e : Envelope) (code : Byte) (a : Answer) (s : State) :
    Steady s (finishRequest e code a s) := by
  rw [finishRequest_frame]
  exact .of_apart rfl

/-- A request whose run, answer and aftermath are steady, but for a swap of the banks where `w` allows it. -/
def Handler.Moves (w : Prop) (f : Handler) : Prop :=
  (∀ code e s, s.relay.relays = true →
    Moved w s (f.after (f.run e s).2 (finishRequest e code (f.run e s).2 (f.run e s).1)))
  ∧ ∀ a s, Steady s (f.after a s)

theorem Handler.Moves.of_run {f : Handler} (hrun : ∀ e s, Moved w s (f.run e s).1) (hafter : ∀ a s, Steady s (f.after a s)) :
    f.Moves w :=
  ⟨fun code e s _ => (hrun e s).trans ((steady_finishRequest e code _ _).trans (hafter _ _)), hafter⟩

theorem Handler.Moves.of_steady {f : Handler} (hrun : ∀ e s, Steady s (f.run e s).1) (hafter : ∀ a s, Steady s (f.after a s)) :
    f.Moves w := .of_run (fun e s => (hrun e s).moved) hafter

theorem steady_noAfter (a : Answer) (s : State) : Steady s (noAfter a s) := .refl s

theorem moves_ident (ps : List Byte) : (identHandler ps).Moves w := .of_steady (fun _ s => .refl s) steady_noAfter

theorem moves_claim (ps : List Byte) : (claimHandler ps).Moves w := by
  refine .of_steady (fun e s => ?run) fun a s => ?after
  case run =>
    have granted (lease : Half) (k : Policy) : Steady s (grant e lease k s) := .of_apart rfl
    dsimp only [claimHandler, runClaim]
    split
    · exact .refl s
    · split
      · exact .refl s
      · split
        · split
          · exact granted _ _
          · exact .refl s
        · exact granted _ _
  case after =>
    dsimp only [claimHandler]
    split
    · exact steady_offerNotice s
    · exact .refl s

theorem moves_renounce (ps : List Byte) : (renounceHandler ps).Moves w :=
  .of_steady (fun _ s => steady_clearOwner s) steady_noAfter

theorem moves_settingsRead (ps : List Byte) : (settingsReadHandler ps).Moves w :=
  .of_steady (fun _ s => .refl s) steady_noAfter

end

end Sys2Proof.Machine
end

section
/-! SUPPORT and proofs of what every command keeps of the match table and the ranges (O57, O59). -/

namespace Sys2Proof.Machine

/-! ## The settings record (R157) -/

section
variable {w : Prop} {s : State}

theorem settingsOf_in_range {ps : List Byte} (h : settingsFaults ps = 0) :
    (∀ p, 4 ≤ ((settingsOf ps).bucketLimit.get p).toNat) ∧ (settingsOf ps).holdTime ≠ 0
    ∧ (settingsOf ps).repeatTime ≠ 0 ∧ (settingsOf ps).ageLimit ≠ 0 := by
  have clear (x y : Byte) : x ||| y = 0 ↔ x = 0 ∧ y = 0 := BitVec.or_eq_zero_iff
  simp only [settingsFaults, clear, ite_eq_right_iff] at h
  obtain ⟨⟨⟨⟨⟨⟨-, -⟩, hlimitA⟩, hlimitB⟩, hhold⟩, hrepeat⟩, hage⟩ := h
  refine ⟨fun p => ?_, fun h0 => by simpa using hhold h0, fun h0 => by simpa using hrepeat h0,
    fun h0 => by simpa using hage h0⟩
  cases p with
  | a => exact not_lt.mp fun hlt => by simpa using hlimitA hlt
  | b => exact not_lt.mp fun hlt => by simpa using hlimitB hlt

theorem foldl_setFault_frame (ps : List Port) (s : State) : ps.foldl (fun t p => setFault p t) s = { s with
    ports := (ps.foldl (fun t p => setFault p t) s).ports
    portStats := (ps.foldl (fun t p => setFault p t) s).portStats } := by
  induction ps generalizing s with
  | nil => rfl
  | cons p ps ih =>
    rw [List.foldl_cons, ih]
    rfl

theorem foldl_setFault_ports (ps : List Port) (q : Port) (s : State) :
    (ps.foldl (fun t p => setFault p t) s).ports.get q = if q ∈ ps then faultedPort else s.ports.get q := by
  induction ps generalizing s with
  | nil => rfl
  | cons p ps ih =>
    have faulted : (setFault p s).ports.get q = if p = q then faultedPort else s.ports.get q := PerPort.get_set ..
    rw [List.foldl_cons, ih, faulted]
    by_cases hp : p = q
    · simp [hp]
    · simp [hp, Ne.symm hp]

/-- R21: with both ports SYNCED the new limits leave no bucket at or above its limit. -/
theorem rangesOk_compareLimits (hsynced : ∀ p, (s.ports.get p).state = .synced)
    (h : RangesOk { s with ports := ⟨.reset, .reset⟩ }) : RangesOk (compareLimits s) := by
  have faulted : RangesOk ((overLimit s).foldl (fun t p => setFault p t) s) := by
    rw [foldl_setFault_frame]
    refine { h with bucket := fun p => ?_ }
    rw [foldl_setFault_ports]
    split
    · exact lt_of_lt_of_le (show faultedPort.bucket < 4 by decide) (h.limit p)
    · rename_i below
      cases p <;> simpa [overLimit, hsynced] using below
  unfold compareLimits
  split
  · rename_i hnone
    rwa [hnone] at faulted
  · exact (steady_after_faults _ s).ranges faulted

theorem moves_settingsWrite (ps : List Byte) : (settingsWriteHandler ps).Moves w := by
  have after (a : Answer) (t : State) : Steady t ((settingsWriteHandler ps).after a t) := by
    dsimp only [settingsWriteHandler]
    split
    · exact steady_compareLimits t
    · exact .refl t
  refine ⟨fun code e s hr => ?_, after⟩
  by_cases hfaults : settingsFaults ps = 0
  · have run : (settingsWriteHandler ps).run e s
        = ({ s with settings := settingsOf ps }, .plain .done (settingsBytes (settingsOf ps))) := if_pos hfaults
    obtain ⟨limit, hold, repeat_, age⟩ := settingsOf_in_range hfaults
    have replaced := steady_finishRequest e code (.plain .done (settingsBytes (settingsOf ps)))
      { s with settings := settingsOf ps }
    rw [run]
    refine ⟨.inl (replaced.trans (steady_compareLimits _)).engine, fun hsynced hs => rangesOk_compareLimits (fun p => ?_) ?_⟩
    · rw [finishRequest_frame]
      have hne : s.relay ≠ .bypass := fun hb => by rw [hb] at hr; cases hr
      obtain ⟨ha, hb⟩ := hsynced hne
      cases p
      · exact ha
      · exact hb
    · rw [finishRequest_frame]
      exact { hs with
        limit := limit, holdTime := hold, repeat_ := repeat_, ageLimit := age
        bucket := fun p => lt_of_lt_of_le
          ((congrArg PortBlock.bucket (reset_port p)).trans_lt (show PortBlock.reset.bucket < 4 by decide)) (limit p) }
  · have run : (settingsWriteHandler ps).run e s = (s, .plain .badValue [settingsFaults ps]) := if_neg hfaults
    rw [run]
    exact ((steady_finishRequest e code _ s).trans (after _ _)).moved

/-! ## The requests for the table (R57 to R59, R67, R74) -/

/-- R57 step 3: the fields of an entry fit together, and it holds a kind. -/
theorem entryUnfit_eq_false_iff {x : Entry} (hsrc : x.src ≠ some 255) :
    entryUnfit x = false ↔ x.fits ∧ (x.kData || x.kPoll || x.kAnswer) = true := by
  simp only [entryUnfit, Entry.fits, Bool.or_eq_false_iff, Bool.and_eq_false_iff, bne_eq_false_iff_eq, decide_eq_false_iff_not,
    Bool.not_eq_false', Bool.or_eq_true]
  grind

/-- R57 step 2: a record that passes names no src of 255. -/
theorem entryOfRecord_src_ne {r : List Byte} (h : entryBadValue r = false) : (entryOfRecord r).src ≠ some 255 := by
  simp only [entryBadValue, Bool.or_eq_false_iff, Bool.and_eq_false_iff, decide_eq_false_iff_not] at h
  obtain ⟨⟨-, hsrc⟩, -⟩ := h
  simp only [entryOfRecord]
  rcases hsrc with habsent | hbyte
  · rw [habsent]
    nofun
  · split
    · exact fun h => hbyte (Option.some.inj h)
    · nofun

/-- R57: what passes the checks of an ENTRY-WRITE fits. -/
theorem fits_of_checks {r : List Byte} (hvalue : entryBadValue r = false) (hentry : entryUnfit (entryOfRecord r) = false) :
    (entryOfRecord r).fits := ((entryUnfit_eq_false_iff (entryOfRecord_src_ne hvalue)).mp hentry).1

theorem moves_entryRead (ps : List Byte) : (entryReadHandler ps).Moves w := by
  refine .of_steady (fun e s => ?_) steady_noAfter
  dsimp only [entryReadHandler, runEntryRead]
  repeat' split
  all_goals exact .refl s

theorem moves_entryWrite (ps : List Byte) : (entryWriteHandler ps).Moves w := by
  refine .of_steady (fun e s => ?_) steady_noAfter
  dsimp only [entryWriteHandler, runEntryWrite]
  split
  · exact .refl s
  · split
    · exact .refl s
    · split
      · exact .refl s
      · split
        · exact .refl s
        · rename_i hvalue hentry
          exact .of_engine (s.engine.keeps_writeStaging _
            (fits_of_checks (Bool.eq_false_iff.mpr hvalue) (Bool.eq_false_iff.mpr hentry)))

theorem moves_entryClear (ps : List Byte) : (entryClearHandler ps).Moves w := by
  refine .of_steady (fun e s => ?_) steady_noAfter
  dsimp only [entryClearHandler, runEntryClear]
  split
  · exact .refl s
  · split
    · exact .of_engine s.engine.keeps_clearStaging
    · split
      · exact .refl s
      · exact .of_engine (s.engine.keeps_writeStaging _ Entry.cleared_fits)

theorem moves_bankCopy (ps : List Byte) : (bankCopyHandler ps).Moves w := by
  refine .of_steady (fun e s => ?_) steady_noAfter
  dsimp only [bankCopyHandler, runBankCopy]
  split
  · exact .refl s
  · refine (Steady.of_engine (s.engine.keeps_startCopy (.running 0 e.port e.src e.seq))).trans ?_
    exact .of_apart rfl

/-- R74: the one request that makes the other bank active. -/
theorem moves_bankSwap (hw : w) (ps : List Byte) : (bankSwapHandler ps).Moves w := by
  refine .of_run (fun e s => ?_) steady_noAfter
  have refused : Moved w s s := (Steady.refl s).moved
  dsimp only [bankSwapHandler, runBankSwap]
  split
  · exact refused
  · split
    · exact refused
    · split
      · exact refused
      · exact ⟨.inr ⟨hw, .refl _⟩, fun _ hs => { hs with }⟩

/-! ## The requests for the slots and the counters -/

theorem moves_slotSetup (ps : List Byte) : (slotSetupHandler ps).Moves w := by
  refine .of_steady (fun e s => ?_) steady_noAfter
  dsimp only [slotSetupHandler, runSlotSetup]
  repeat' split
  all_goals exact .of_apart rfl

theorem moves_slotLoad (ps : List Byte) : (slotLoadHandler ps).Moves w := by
  refine .of_steady (fun e s => ?_) steady_noAfter
  dsimp only [slotLoadHandler, runSlotLoad]
  repeat' split
  all_goals exact .of_apart rfl

theorem moves_slotReadPlain (slot : Byte) : (slotReadPlainHandler slot).Moves w := by
  refine .of_steady (fun e s => ?_) steady_noAfter
  dsimp only [slotReadPlainHandler, runReadPlain]
  split <;> exact .refl s

theorem moves_slotReadHold (slot : Byte) : (slotReadHoldHandler slot).Moves w := by
  refine .of_steady (fun e s => ?_) steady_noAfter
  dsimp only [slotReadHoldHandler, runReadHold]
  repeat' split
  all_goals exact .of_apart rfl

theorem moves_slotRelease (ps : List Byte) : (slotReleaseHandler ps).Moves w := by
  refine .of_steady (fun e s => ?_) steady_noAfter
  dsimp only [slotReleaseHandler, runSlotRelease]
  repeat' split
  all_goals exact .of_apart rfl

theorem moves_noticeAck (ps : List Byte) : (noticeAckHandler ps).Moves w := by
  refine .of_steady (fun e s => ?_) steady_noAfter
  dsimp only [noticeAckHandler, runNoticeAck]
  split <;> exact .of_apart rfl

/-- R166: a DIR group's high-water mark goes to 0. -/
theorem steady_clearGroup (g : Group) (s : State) : Steady s (clearGroup g s) := by
  cases g with
  | dirAB =>
    exact .trans (t := s.setPath .ab { s.paths.ab with highWater := 0 }) (steady_setPath fun _ => Nat.zero_le 96) (.of_apart rfl)
  | dirBA =>
    exact .trans (t := s.setPath .ba { s.paths.ba with highWater := 0 }) (steady_setPath fun _ => Nat.zero_le 96) (.of_apart rfl)
  | portA | portB | proxy | agent => exact .of_apart rfl
  | slots0 | slots1 =>
    have recounted (v : Vector Slot 32) : Steady s { s with slots := v } := .of_apart rfl
    exact recounted _

theorem steady_runStats (clear : Bool) (group : Byte) (s : State) : Steady s (runStats clear group s).1 := by
  unfold runStats
  split
  · exact .refl s
  · dsimp only
    split
    · exact steady_clearGroup _ s
    · exact .refl s

theorem moves_statsPlain (group : Byte) : (statsPlainHandler group).Moves w :=
  .of_steady (fun _ s => steady_runStats false group s) steady_noAfter

theorem moves_statsClear (group : Byte) : (statsClearHandler group).Moves w :=
  .of_steady (fun _ s => steady_runStats true group s) steady_noAfter

theorem moves_restart (ps : List Byte) : (restartHandler ps).Moves w :=
  .of_steady (fun _ _ => .of_apart rfl) steady_noAfter

theorem moves_refused (st : Status) : (refusedHandler st).Moves w := .of_steady (fun _ s => .refl s) steady_noAfter

theorem moves_select {f g : Byte → Handler} (hf : ∀ x, (f x).Moves w) (hg : ∀ x, (g x).Moves w) (ps : List Byte) :
    (selectHandler f g ps).Moves w := by
  unfold selectHandler
  split
  · split
    · exact hf _
    · split
      · exact hg _
      · exact moves_refused _
  · exact moves_refused _

theorem Handler.Moves.ite {c : Prop} [Decidable c] {f g : Handler} (hf : c → f.Moves w) (hg : g.Moves w) :
    (if c then f else g).Moves w := by
  split
  · exact hf ‹_›
  · exact hg

/-- R182: of the payloads a request can have, one whose code is 14H alone may swap the banks. -/
theorem moves_handlerOf (code : Byte) (ps : List Byte) : (handlerOf code ps).Moves (code = 0x14) :=
  .ite (fun _ => moves_ident ps) <|
  .ite (fun _ => moves_claim ps) <|
  .ite (fun _ => moves_renounce ps) <|
  .ite (fun _ => moves_settingsRead ps) <|
  .ite (fun _ => moves_settingsWrite ps) <|
  .ite (fun _ => moves_entryRead ps) <|
  .ite (fun _ => moves_entryWrite ps) <|
  .ite (fun _ => moves_entryClear ps) <|
  .ite (fun _ => moves_bankCopy ps) <|
  .ite (fun hcode => moves_bankSwap hcode ps) <|
  .ite (fun _ => moves_slotSetup ps) <|
  .ite (fun _ => moves_slotLoad ps) <|
  .ite (fun _ => moves_select moves_slotReadPlain moves_slotReadHold ps) <|
  .ite (fun _ => moves_slotRelease ps) <|
  .ite (fun _ => moves_noticeAck ps) <|
  .ite (fun _ => moves_select moves_statsPlain moves_statsClear ps) <|
  .ite (fun _ => moves_restart ps) <|
  moves_refused _

/-! ## The agent (R135, R137) -/

theorem steady_duplicate (e : Envelope) (x : CacheEntry) (s : State) : Steady s (duplicate e x s) := by
  have counted : Steady s { s.bumpAgent (fun c => { c with duplicates := satInc c.duplicates }) with
    cache := refreshCache x s.cache } := .of_apart rfl
  unfold duplicate
  dsimp only
  split
  · exact counted
  · split
    · exact counted.trans (steady_place _ _ _)
    · exact counted.trans (.of_apart rfl)

theorem moved_examine {f : Handler} (hf : f.Moves w) (code : Byte) (e : Envelope) (hr : s.relay.relays = true) :
    Moved w s (examine f code e s) := by
  obtain ⟨hrun, hafter⟩ := hf
  unfold examine
  split
  · exact (steady_duplicate e _ s).moved
  · split
    · rcases runRequest_cases f e s with hs | hs
      · rw [hs]
        exact ((steady_finishRequest e code _ s).trans (hafter _ _)).moved
      · rw [hs]
        exact hrun code e s hr
    · exact Steady.moved (.of_apart rfl)

theorem moved_agentRequest {f : Handler} (hf : f.Moves w) (code : Byte) (e : Envelope) (s : State) :
    Moved (¬(e.copy = true ∧ code ≠ 0x01) ∧ w) s (agentRequest f code e s) := by
  unfold agentRequest
  split
  · exact (Steady.refl s).moved
  · split
    · exact Steady.moved (.of_apart rfl)
    · split
      · exact Steady.moved (.of_apart rfl)
      · rename_i hcopy hr _
        exact (moved_examine hf code e (by simpa using hr)).imp fun hw => ⟨hcopy, hw⟩

theorem steady_assignEnd (p : Port) (n : Byte) (s : State) : Steady s (assignEnd p n s) := by
  have offered (q : Port) (b : Byte) (t : State) : Steady t (offerAssign q b t) := by
    unfold offerAssign
    split
    · exact .of_apart rfl
    · split
      · exact steady_place _ _ t
      · exact .of_apart rfl
  unfold assignEnd
  split
  · split
    · exact offered _ _ s
    · refine .trans ?_ (offered _ _ _)
      exact .of_apart rfl
  · exact .of_apart rfl

/-- R134, R182: the agent is receiving from a port a request to the part whose first payload byte is that of BANK-SWAP. -/
def ReceivesSwap (p : Port) (s : State) : Prop :=
  ∃ x, s.inbox.get p = some x ∧ x.kind = .request false ∧ x.payload.head? = some 0x14

theorem moved_agentEnd (p : Port) (cls : EndClass) (s : State) :
    Moved (cls = .good ∧ ReceivesSwap p s) s (agentEnd p cls s) := by
  have discarded : Steady s (s.setInbox p none) := .of_apart rfl
  unfold agentEnd
  split
  · exact (Steady.refl s).moved
  · rename_i x hx
    split
    · rename_i hgood
      split
      · rename_i copy code ps hkind hpayload
        have run := moved_agentRequest (moves_handlerOf code ps) code
          { port := p, src := x.src, seq := x.seq, copy := copy } (s.setInbox p none)
        refine .of_before (run.imp fun ⟨hcopy, hcode⟩ => ⟨hgood, x, hx, ?_, by rw [hpayload, hcode]; rfl⟩) discarded rfl
        subst hcode
        cases copy with
        | false => exact hkind
        | true => exact absurd ⟨rfl, by decide⟩ hcopy
      · exact (discarded.trans (steady_assignEnd p _ _)).moved
      · exact discarded.moved
    · exact discarded.moved

end

end Sys2Proof.Machine
end

section
/-! SUPPORT and proofs of what every command keeps of the match table, the ranges and a waiting restart (O57, O59). -/

namespace Sys2Proof.Machine

/-! ## The receivers -/

section
variable {w : Prop} {p : Port} {s : State}

theorem moved_frameEnd (p : Port) (cls : EndClass) (x : LineEvent) (s : State) :
    Moved (cls = .good ∧ ReceivesSwap p s) s (frameEnd p cls x s) := by
  have counted : Steady s (countEnd p cls (s.setRx p (rxAfterEnd s.timestamp x (s.rx.get p)))) := by
    rw [countEnd_eq]
    exact .of_apart rfl
  have closed := counted.trans (steady_closeFlight p cls _)
  have ended := moved_agentEnd p cls (closeFlight p cls (countEnd p cls (s.setRx p (rxAfterEnd s.timestamp x (s.rx.get p)))))
  rw [countEnd_eq] at closed ended
  unfold frameEnd
  rw [countEnd_eq]
  refine Moved.trans (.of_before (ended.imp (And.imp_right ?inbox)) closed ?before)
    ((steady_bucketAdd p _ _).trans (steady_joinCheck _))
  case inbox =>
    rintro ⟨y, hy⟩
    rw [closeFlight_frame] at hy
    exact ⟨y, hy⟩
  case before =>
    rw [closeFlight_frame]
    rfl

theorem moved_frameEnd_of_not_good {cls : EndClass} (h : cls ≠ .good) (p : Port) (x : LineEvent) (s : State) :
    Moved w s (frameEnd p cls x s) := (moved_frameEnd p cls x s).imp fun hw => absurd hw.1 h

theorem steady_setRx (p : Port) (r : Receiver) (s : State) : Steady s (s.setRx p r) := .of_apart rfl

theorem lengthAtHeader_frame (p : Port) (s : State) :
    lengthAtHeader p s = { s with dirStats := (lengthAtHeader p s).dirStats } := by
  unfold lengthAtHeader
  split <;> rfl

/-- R9: a frame that ends LENGTH at its header. -/
theorem moved_lengthEnd (p : Port) (x : LineEvent) (s : State) :
    Moved w s (frameEnd p .length x (lengthAtHeader p s)) := by
  rw [lengthAtHeader_frame]
  generalize (lengthAtHeader p s).dirStats = c
  exact (moved_frameEnd_of_not_good (cls := .length) nofun p x { s with dirStats := c }).of_before (.of_apart rfl) rfl

theorem moved_headerByte (p : Port) (b : Byte) (s : State) : Moved w s (headerByte p b s) := by
  have received (r : Receiver) := steady_setRx p r s
  unfold headerByte
  dsimp only
  split
  · exact (received _).moved
  · split
    · split
      · exact (received _).moved
      · exact ((received _).trans (steady_headerReport _ _ _ _)).moved
    · split
      · exact (moved_frameEnd_of_not_good (by nofun) _ _ _).of_before (received _) rfl
      · exact (moved_lengthEnd p _ _).of_before (received _) rfl

theorem moved_bodyByte (p : Port) (b : Byte) (s : State) : Moved w s (bodyByte p b s) := by
  have received (r : Receiver) := steady_setRx p r s
  unfold bodyByte
  dsimp only
  split
  · split
    · exact (received _).moved
    · exact ((received _).trans (steady_relayByte _ _ _ _)).moved
  · exact moved_frameEnd_of_not_good (endClass_length_ne_good _) _ _ s

theorem moved_delimit (p : Port) (x : LineEvent) (s : State) :
    Moved (x = .symbol .eof ∧ ReceivesSwap p s) s (delimit p x s) := by
  unfold delimit
  dsimp only
  split
  · exact (steady_setRx p _ s).moved
  · exact ((steady_setRx p _ s).trans (steady_bucketAdd _ _ _)).moved
  · exact moved_headerByte p _ s
  · exact moved_frameEnd_of_not_good (endClass_runt_ne_good _) _ _ s
  · exact moved_bodyByte p _ s
  · exact (moved_frameEnd p _ _ s).imp fun hw => ⟨rfl, hw.2⟩
  · exact moved_frameEnd_of_not_good (by nofun) _ _ s

theorem steady_synchronise (p : Port) (x : LineEvent) (s : State) : Steady s (synchronise p x s) := by
  unfold synchronise
  split
  · split
    · exact steady_portSynced p s
    · exact steady_setPort_of_le le_rfl
  · exact steady_setPort_of_le le_rfl

theorem moved_receive (p : Port) (x : LineEvent) (s : State) :
    Moved (x = .symbol .eof ∧ ReceivesSwap p s) s (receive p x s) := by
  have counted : Steady s (countCodeError p x s) := by
    rw [countCodeError_eq]
    exact .of_apart rfl
  unfold receive
  split
  · exact (Steady.refl s).moved
  · exact (counted.trans (steady_synchronise p x _)).moved
  · refine .of_before ((moved_delimit p x (countCodeError p x s)).imp (And.imp_right ?_)) counted ?_
    · rw [countCodeError_eq]
      exact id
    · rw [countCodeError_eq]
  · exact counted.moved

/-! ## Every command -/

/-- R74: the ways to drive a BANK-SWAP: its row, its payload under UNKNOWN_REQUEST [log 5], and the EOF of its frame. -/
def SwapsBanks (s : State) : Instr → Prop
  | .bankSwap _ _ => True
  | .unknownRequest _ code _ => code = 0x14
  | .receiveEof p => ReceivesSwap p s
  | _ => False

theorem moved_requestRow {f : Handler} (hf : f.Moves w) (code : Byte) (e : Envelope) (s : State) :
    ∃ t, requestRow f code e s = .next t ∧ Moved w s t :=
  exists_next_ite_of (fun _ => (Steady.refl s).moved) fun _ =>
    ((moved_agentRequest hf code e s).imp And.right).trans (steady_settleRestart _)

theorem moved_receiveRow (p : Port) (x : LineEvent) (s : State) :
    ∃ t, receiveRow p x s = .next t ∧ Moved (x = .symbol .eof ∧ ReceivesSwap p s) s t :=
  exists_next_ite_of (fun _ => (Steady.refl s).moved) fun _ => (moved_receive p x s).trans (steady_settleRestart _)

theorem moved_receiveRow_of_not_eof {x : LineEvent} (hx : x ≠ .symbol .eof) (p : Port) (s : State) :
    ∃ t, receiveRow p x s = .next t ∧ Moved w s t := by
  obtain ⟨t, ht, moved⟩ := moved_receiveRow p x s
  exact ⟨t, ht, moved.imp fun hw => absurd hw.1 hx⟩

theorem steady_execLeaseExpiry (s : State) : ∃ t, execLeaseExpiry s = .next t ∧ Steady s t := by
  unfold execLeaseExpiry
  split
  · exact ⟨s, rfl, .refl s⟩
  · exact exists_next_ite_of (fun _ => .refl s) fun _ => steady_expireLease _ s

/-- Every command but RESET_ASSERT keeps which bank is active, its entries' contents and the ranges, unless it is a BANK-SWAP. -/
theorem moved_exec {c : Instr} (hc : c ≠ .resetAssert) (s : State) : ∃ t, exec c s = .next t ∧ Moved (SwapsBanks s c) s t := by
  have outOfReset {u : State} (hu : Steady s u) :
      ∃ t, (if s.resetPin then .next s else .next u : Host.Outcome State Fault Refusal) = .next t
        ∧ Moved (SwapsBanks s c) s t :=
    exists_next_ite_of (fun _ => (Steady.refl s).moved) fun _ => hu.moved
  have guarded {g : Prop} [Decidable g] {u : State} (hu : Steady s u) :
      ∃ t, (if g then .next u else .next s : Host.Outcome State Fault Refusal) = .next t ∧ Moved (SwapsBanks s c) s t :=
    exists_next_ite_of (fun _ => hu.moved) fun _ => (Steady.refl s).moved
  have reported (x : PerPort Bool) : Steady s { s with signal := x } := .of_apart rfl
  cases c with
  | resetAssert => exact absurd rfl hc
  | resetRelease straps =>
    exact guarded ((Steady.trans (.of_apart rfl) (steady_releasePort .a _)).trans (steady_releasePort .b _))
  | signalPresent q =>
    exact exists_next_ite_of (fun _ => ((reported _).trans (steady_startSync q _)).moved) fun _ => (reported _).moved
  | lossOfSignal q =>
    exact exists_next_ite_of (fun _ => (((reported _).trans (steady_loseSignal q _)).trans (steady_settleRestart _)).moved)
      fun _ => (reported _).moved
  | receiveEof q =>
    obtain ⟨t, ht, moved⟩ := moved_receiveRow q (.symbol .eof) s
    exact ⟨t, ht, moved.imp And.right⟩
  | receiveSof | receiveDataByte | receiveAbort | receiveIdle | codeError => exact moved_receiveRow_of_not_eof (by nofun) _ s
  | coolDownExpiry q => exact guarded (steady_coolDownEnd q s)
  | joinSettleExpiry => exact guarded (steady_settleExpiry s)
  | throughFrameStart q => exact guarded (steady_startThrough q s)
  | transmitSymbol q => exact outOfReset ((steady_transmit q s).trans (steady_settleRestart _))
  | moveOutAnswer | moveOutMreply | moveOutNotice | moveOutAssign | moveOutBeacon =>
    exact ⟨_, rfl, (steady_moveOutFrom _ _ s).moved⟩
  | tick1ms => exact outOfReset (steady_takeTick1 s)
  | queueAgeOut q => exact outOfReset ((steady_ageOut q s).trans (steady_settleRestart _))
  | beaconExpiry n => exact guarded (Steady.trans (.of_apart rfl) (steady_fireBeacon n _))
  | tick10ms => exact outOfReset (steady_takeTick10 s)
  | holdTimerExpiry n => exact outOfReset (steady_lapse n s)
  | noticeRepeatExpiry => exact guarded (Steady.trans (.of_apart rfl) (steady_offerNotice _))
  | tick100ms => exact outOfReset (steady_takeTick100 s)
  | leaseExpiry =>
    obtain ⟨t, ht, steady⟩ := steady_execLeaseExpiry s
    exact ⟨t, ht, steady.moved⟩
  | bankCopyAdvance => exact outOfReset (steady_advanceCopy s)
  | bankCopyComplete => exact outOfReset (steady_completeCopy s)
  | ident e ps => exact moved_requestRow (moves_ident ps) _ e s
  | claim e ps => exact moved_requestRow (moves_claim ps) _ e s
  | renounce e ps => exact moved_requestRow (moves_renounce ps) _ e s
  | settingsRead e ps => exact moved_requestRow (moves_settingsRead ps) _ e s
  | settingsWrite e ps => exact moved_requestRow (moves_settingsWrite ps) _ e s
  | entryRead e ps => exact moved_requestRow (moves_entryRead ps) _ e s
  | entryWrite e ps => exact moved_requestRow (moves_entryWrite ps) _ e s
  | entryClear e ps => exact moved_requestRow (moves_entryClear ps) _ e s
  | bankCopy e ps => exact moved_requestRow (moves_bankCopy ps) _ e s
  | bankSwap e ps => exact moved_requestRow (moves_bankSwap trivial ps) _ e s
  | slotSetup e ps => exact moved_requestRow (moves_slotSetup ps) _ e s
  | slotLoad e ps => exact moved_requestRow (moves_slotLoad ps) _ e s
  | slotReadWithoutHold e slot => exact moved_requestRow (moves_slotReadPlain slot) _ e s
  | slotReadWithHold e slot => exact moved_requestRow (moves_slotReadHold slot) _ e s
  | slotRelease e ps => exact moved_requestRow (moves_slotRelease ps) _ e s
  | noticeAck e ps => exact moved_requestRow (moves_noticeAck ps) _ e s
  | statsReadWithoutClear e group => exact moved_requestRow (moves_statsPlain group) _ e s
  | statsReadWithClear e group => exact moved_requestRow (moves_statsClear group) _ e s
  | restart e ps => exact moved_requestRow (moves_restart ps) _ e s
  | unknownRequest e code ps => exact moved_requestRow (moves_handlerOf code ps) code e s
  | assign q n => exact outOfReset (steady_assignEnd q n s)
  | restartBegin => exact guarded (steady_restartBegin s)
  | timestampCounterAdvance => exact outOfReset (steady_advanceTime s)

theorem moved_of_exec {c : Instr} {t : State} (hc : c ≠ .resetAssert) (ht : exec c s = .next t) : Moved (SwapsBanks s c) s t := by
  obtain ⟨u, hu, moved⟩ := moved_exec hc s
  cases hu.symm.trans ht
  exact moved

end

/-- Settles O59: a swap changes the selector, and every other command keeps the active bank. -/
theorem activeBankChangesOnlyBySwap : Obligations.ActiveBankChangesOnlyBySwap := by
  refine ⟨fun c s t hc ht hselector => ?contents, fun c s t hc hswap hunknown heof ht => ?selector⟩
  case contents =>
    rcases (moved_of_exec hc ht).engine with kept | ⟨-, swapped⟩
    · exact kept.active
    · exact absurd (swapped.selector.symm.trans hselector) s.engine.selector.other_ne
  case selector =>
    have notSwap : ¬SwapsBanks s c := by
      intro h
      cases c with
      | bankSwap e ps => exact hswap e ps rfl
      | unknownRequest e code ps => exact hunknown e ps (congrArg (Instr.unknownRequest e · ps) h)
      | receiveEof p =>
        obtain ⟨x, hx, hkind, hcode⟩ := h
        exact heof p rfl x hx hkind hcode
      | _ => exact h
    rcases (moved_of_exec hc ht).engine with kept | ⟨hw, -⟩
    · exact kept.selector
    · exact absurd hw notSwap

end Sys2Proof.Machine
end

section
/-! SUPPORT and proof of what every command keeps of a waiting restart (R169), and with it of the table and the ranges (O57). -/

namespace Sys2Proof.Machine

/-! ## A waiting restart (R169) -/

section
variable {p : Port} {s : State}

theorem restartDue_settleRestart (s : State) : restartDue (settleRestart s) = false := by
  obtain ⟨hdue, hs⟩ | ⟨-, hs⟩ := settleRestart_cases s
  · rw [hs]
    exact hdue
  · rw [hs]
    exact restartDue_restartBegin s

theorem restartDue_addEvent (bit : BitVec 34) (s : State) : restartDue (addEvent bit s) = restartDue s :=
  restartDue_offerNotice (noted bit s)

theorem restartDue_startSync (p : Port) (s : State) : restartDue (startSync p s) = restartDue s := restartDue_addEvent _ _

theorem restartDue_releasePort (p : Port) (s : State) : restartDue (releasePort p s) = restartDue s := by
  unfold releasePort
  split
  · exact restartDue_startSync p s
  · rfl

theorem restartDue_coolDownEnd (p : Port) (s : State) : restartDue (coolDownEnd p s) = restartDue s := restartDue_addEvent _ _

theorem restartDue_settleExpiry (s : State) : restartDue (settleExpiry s) = restartDue s := by
  unfold settleExpiry
  split <;> exact restartDue_offerNotice _

theorem restartDue_lapse (n : Fin 32) (s : State) : restartDue (lapse n s) = restartDue s := by
  unfold lapse
  split
  · exact restartDue_slotEvent _ _
  · exact restartDue_slotEvent _ _
  · rfl

theorem restartDue_foldl_lapse (l : List (Fin 32)) (s : State) :
    restartDue (l.foldl (fun t n => lapse n t) s) = restartDue s := by
  induction l generalizing s with
  | nil => rfl
  | cons n l ih => exact (ih (lapse n s)).trans (restartDue_lapse n s)

/-- R168, R124: a withdrawal of other entries than replies leaves the reply a restart waits for. -/
theorem restartDue_withdraw {t : EntryBody → Bool} (h : ∀ b, t b = true → b.isNamed = false) (s : State) :
    restartDue (withdraw t s) = restartDue s := by
  have kept (q : Port) (u : State) : restartDue (withdrawFrom t q u) = restartDue u :=
    restartDue_setQueue (p := q) (s := u)
      (q := { u.queues.get q with entries := (u.queues.get q).entries.filter fun e => !t e.body })
      (any_isNamed_filter fun x _ hx => h x.body hx)
  exact (kept .b _).trans (kept .a s)

theorem restartDue_clearOwner (s : State) : restartDue (clearOwner s) = restartDue s := by
  refine (restartDue_withdraw (fun b hb => ?_) _).trans ?_
  · rw [isFrom_notice, decide_eq_true_eq] at hb
    rw [hb]
    rfl
  · exact restartDue_foldl_lapse s.holdList { s with owner := none }

theorem restartDue_setLatch (s : State) : restartDue (setLatch s) = restartDue s := by
  unfold setLatch
  split
  · refine (restartDue_offerNotice _).trans (restartDue_withdraw (fun b hb => ?_) { s with
      latch := true, slots := mapVec stopBeacon s.slots })
    cases b with
    | mreply => cases hb
    | _ => rfl
  · rfl

theorem restartDue_expireLease (o : Owner) (s : State) : restartDue (expireLease o s) = restartDue s := by
  unfold expireLease
  split
  · exact restartDue_clearOwner s
  · exact (restartDue_setLatch _).trans (restartDue_clearOwner s)

theorem restartDue_takeTick10 (s : State) : restartDue (takeTick10 s) = restartDue s := by
  have repeated (t : State) : restartDue (tickRepeat t) = restartDue t := by
    unfold tickRepeat
    split
    · rfl
    · split
      · exact restartDue_offerNotice _
      · rfl
  unfold takeTick10
  split
  · exact ((restartDue_offerNotice _).trans (repeated _)).trans (restartDue_foldl_lapse _ _)
  · rfl

theorem restartDue_takeTick100 (s : State) : restartDue (takeTick100 s) = restartDue s := by
  unfold takeTick100 tick100ms
  split
  · split
    · rfl
    · split
      · exact restartDue_expireLease _ _
      · rfl
  · rfl

/-- R169: a tick's age-outs may take the reply, and the restart then begins in the tick. -/
theorem restartWaits_takeTick1 (h : RestartWaits s) : RestartWaits (takeTick1 s) := by
  unfold takeTick1
  split
  · exact restartDue_settleRestart _
  · exact h

theorem restartWaits_advanceTime (h : RestartWaits s) : RestartWaits (advanceTime s) :=
  ((restartDue_takeTick100 _).trans (restartDue_takeTick10 _)).trans (restartWaits_takeTick1 h)

theorem restartDue_completeCopy (s : State) : restartDue (completeCopy s) = restartDue s := by
  unfold completeCopy fillHeldPlace
  split
  · rfl
  · split
    · exact restartDue_setQueue (by simp [EntryBody.isNamed])
    · rfl

theorem restartDue_advanceCopy (s : State) : restartDue (advanceCopy s) = restartDue s := by
  unfold advanceCopy
  split
  · rfl
  · split
    · dsimp only
      split
      · exact restartDue_completeCopy _
      · rfl
    · exact restartDue_completeCopy s

/-! ### A frame's start -/

theorem Tx.isNamed_injection (sofSent : Bool) (bytes : List Byte) (named : Bool) :
    (Tx.injection sofSent bytes named).isNamed = named := rfl

theorem Tx.isNamed_of_isFree {x : Tx} (h : x.isFree = true) : x.isNamed = false := by
  cases x with
  | between => rfl
  | _ => cases h

theorem restartDue_startThrough (h : canStartThrough p s = true) : restartDue (startThrough p s) = restartDue s := by
  simp only [canStartThrough, mayStart, Bool.and_eq_true] at h
  obtain ⟨⟨-, hfree⟩, -⟩ := h
  exact restartDue_setPaths (PerDir.map_get_set (fun y : RelayPath => y.tx.isNamed) s.paths (Tx.isNamed_of_isFree hfree).symm)

/-- R169: the reply a restart waits for stands in a port's queue, or is the frame at its output. -/
def namedAt (p : Port) (s : State) : Bool :=
  (s.queues.get p).entries.any (·.body.isNamed) || (s.paths.get (dirOut p)).tx.isNamed

theorem restartDue_eq_namedAt (p : Port) (s : State) :
    restartDue s = (s.restartPending && !(namedAt p s || namedAt (otherPort p) s)) := by
  unfold restartDue namedAt
  cases p
  · simp only [PerPort.get, PerDir.get, dirOut, otherPort]
    ac_rfl
  · simp only [PerPort.get, PerDir.get, dirOut, otherPort]
    ac_rfl

/-- R122: the selected entry and the others are the queue's entries. -/
theorem selectEntry_perm {es rest : List QEntry} {x : QEntry} (h : selectEntry es = some (x, rest)) : es.Perm (x :: rest) := by
  have taken {t : QEntry → Bool} (ht : takeFirst t es = some (x, rest)) : es.Perm (x :: rest) := by
    obtain ⟨pre, post, hes, hrest, -⟩ := takeFirst_some ht
    rw [hes, hrest]
    exact List.perm_middle
  unfold selectEntry at h
  split at h
  · rename_i ht
    exact taken (ht.trans h)
  · split at h
    · rename_i ht
      exact taken (ht.trans h)
    · exact taken h

/-- R125, R168: the frame of an entry is handed to the transmitter, named as its entry is. -/
theorem startEntry_path (p : Port) (b : EntryBody) (s : State) :
    (startEntry p b s).restartPending = s.restartPending ∧ (startEntry p b s).queues = s.queues
    ∧ ∃ bytes, (startEntry p b s).paths = s.paths.set (dirOut p) { s.paths.get (dirOut p) with
        tx := .injection false bytes b.isNamed } := by
  cases b with
  | answer | mreply | notice | assign => exact ⟨rfl, rfl, _, rfl⟩
  | beacon n =>
    simp only [startEntry, moveBeacon]
    split <;> exact ⟨rfl, rfl, _, rfl⟩

/-- R169: the reply a restart waits for goes from its queue to its output in one event. -/
theorem restartDue_moveOut {x : QEntry} {rest : List QEntry} (hfree : (s.paths.get (dirOut p)).tx.isFree = true)
    (hselect : selectEntry (s.queues.get p).entries = some (x, rest)) : restartDue (moveOut p x rest s) = restartDue s := by
  have taken : (s.queues.get p).entries.any (·.body.isNamed) = (x.body.isNamed || rest.any (·.body.isNamed)) :=
    (selectEntry_perm hselect).any_eq
  have unnamed := Tx.isNamed_of_isFree hfree
  obtain ⟨pending, queues, bytes, paths⟩ :=
    startEntry_path p x.body (s.setQueue p { s.queues.get p with entries := rest })
  unfold moveOut
  rw [countInjected_frame]
  generalize startEntry p x.body (s.setQueue p { s.queues.get p with entries := rest }) = u at pending queues paths ⊢
  have here : namedAt p u = namedAt p s := by
    simp [namedAt, queues, paths, taken, unnamed, Tx.isNamed_injection, Bool.or_comm]
  have there : namedAt (otherPort p) u = namedAt (otherPort p) s := by
    simp only [namedAt, queues, paths, State.setQueue_queues, State.setQueue_paths, PerPort.get_set_otherPort,
      PerDir.get_set_of_ne _ _ (mt dirOut_injective (otherPort_ne p).symm)]
  have due : restartDue u = restartDue s := by
    rw [restartDue_eq_namedAt p u, restartDue_eq_namedAt p s, here, there, pending]
    rfl
  exact due

theorem restartDue_moveOutFrom (x : Source) (p : Port) (s : State) : restartDue (moveOutFrom x p s) = restartDue s := by
  unfold moveOutFrom
  split
  · rename_i h
    simp only [canInject, mayStart, Bool.and_eq_true] at h
    obtain ⟨⟨⟨⟨-, hfree⟩, -⟩, -⟩, -⟩ := h
    split
    · split
      · exact restartDue_moveOut hfree ‹_›
      · rfl
    · rfl
  · rfl

/-! ### Every command -/

theorem restartWaits_requestRow (f : Handler) (code : Byte) (e : Envelope) (h : RestartWaits s) :
    ∃ t, requestRow f code e s = .next t ∧ RestartWaits t :=
  exists_next_ite_of (fun _ => h) fun _ => restartDue_settleRestart _

theorem restartWaits_receiveRow (p : Port) (x : LineEvent) (h : RestartWaits s) :
    ∃ t, receiveRow p x s = .next t ∧ RestartWaits t :=
  exists_next_ite_of (fun _ => h) fun _ => restartDue_settleRestart _

theorem restartWaits_execLeaseExpiry (h : RestartWaits s) : ∃ t, execLeaseExpiry s = .next t ∧ RestartWaits t := by
  unfold execLeaseExpiry
  split
  · exact ⟨s, rfl, h⟩
  · exact exists_next_ite_of (fun _ => h) fun _ => (restartDue_expireLease _ s).trans h

/-- R169: a command that can lose or send the reply begins the restart in its event; the others leave the reply where it is. -/
theorem restartWaits_exec (c : Instr) (h : RestartWaits s) : ∃ t, exec c s = .next t ∧ RestartWaits t := by
  have outOfReset {u : State} (hu : RestartWaits u) :
      ∃ t, (if s.resetPin then .next s else .next u : Host.Outcome State Fault Refusal) = .next t ∧ RestartWaits t :=
    exists_next_ite_of (fun _ => h) fun _ => hu
  have guarded {g : Prop} [Decidable g] {u : State} (hu : restartDue u = restartDue s) :
      ∃ t, (if g then .next u else .next s : Host.Outcome State Fault Refusal) = .next t ∧ RestartWaits t :=
    exists_next_ite_of (fun _ => hu.trans h) fun _ => h
  cases c with
  | resetAssert => exact ⟨_, rfl, rfl⟩
  | resetRelease straps => exact guarded ((restartDue_releasePort .b _).trans (restartDue_releasePort .a _))
  | signalPresent q => exact exists_next_ite_of (fun _ => (restartDue_startSync q _).trans h) fun _ => h
  | lossOfSignal q => exact exists_next_ite_of (fun _ => restartDue_settleRestart _) fun _ => h
  | receiveSof | receiveDataByte | receiveEof | receiveAbort | receiveIdle | codeError => exact restartWaits_receiveRow _ _ h
  | coolDownExpiry q => exact guarded (restartDue_coolDownEnd q s)
  | joinSettleExpiry => exact guarded (restartDue_settleExpiry s)
  | throughFrameStart q =>
    exact exists_next_ite_of (fun hg => (restartDue_startThrough (Bool.and_eq_true_iff.mp hg).1).trans h) fun _ => h
  | transmitSymbol | queueAgeOut => exact outOfReset (restartDue_settleRestart _)
  | moveOutAnswer | moveOutMreply | moveOutNotice | moveOutAssign | moveOutBeacon =>
    exact ⟨_, rfl, (restartDue_moveOutFrom _ _ s).trans h⟩
  | tick1ms => exact outOfReset (restartWaits_takeTick1 h)
  | beaconExpiry n =>
    exact guarded (restartStands_fireBeacon n (s.setSlot n (startBeacon s.slots[n]))).1
  | tick10ms => exact outOfReset ((restartDue_takeTick10 s).trans h)
  | holdTimerExpiry n => exact outOfReset ((restartDue_lapse n s).trans h)
  | noticeRepeatExpiry => exact guarded (restartDue_offerNotice _)
  | tick100ms => exact outOfReset ((restartDue_takeTick100 s).trans h)
  | leaseExpiry => exact restartWaits_execLeaseExpiry h
  | bankCopyAdvance => exact outOfReset ((restartDue_advanceCopy s).trans h)
  | bankCopyComplete => exact outOfReset ((restartDue_completeCopy s).trans h)
  | ident | claim | renounce | settingsRead | settingsWrite | entryRead | entryWrite | entryClear | bankCopy | bankSwap
  | slotSetup | slotLoad | slotReadWithoutHold | slotReadWithHold | slotRelease | noticeAck | statsReadWithoutClear
  | statsReadWithClear | restart | unknownRequest => exact restartWaits_requestRow _ _ _ h
  | assign q n => exact outOfReset ((restartDue_assignEnd q n s).trans h)
  | restartBegin => exact exists_next_ite_of (fun _ => restartDue_restartBegin s) fun _ => h
  | timestampCounterAdvance => exact outOfReset (restartWaits_advanceTime h)

end

/-! ## Every step -/

/-- What every command keeps, whatever waits behind it, every step keeps. -/
theorem step_keeps {P : State → Prop} (hpending : ∀ s rest, P s → P { s with pending := rest })
    (hexec : ∀ c s t, P s → exec c s = .next t → P t) {s t : State} (h : P s) (ht : step s = .next t) : P t := by
  unfold step at ht
  split at ht
  · cases ht
    exact h
  · exact hexec _ _ t (hpending s _ h) ht

section
variable {c : Instr} {s t : State}

/-- R74: no command brings an entry that does not fit into either bank; a swap moves entries that fit. -/
theorem tableOk_exec (h : TableOk s) (ht : exec c s = .next t) : TableOk t := by
  by_cases hc : c = .resetAssert
  · subst hc
    cases ht
    exact tableOk_reset
  · rw [tableOk_iff_fits] at h ⊢
    rcases (moved_of_exec hc ht).engine with kept | ⟨-, swapped⟩
    · exact kept.fits h
    · exact swapped.fits (s.engine.fits_swap h)

theorem restartWaits_of_exec (h : RestartWaits s) (ht : exec c s = .next t) : RestartWaits t := by
  obtain ⟨u, hu, waits⟩ := restartWaits_exec c h
  cases hu.symm.trans ht
  exact waits

theorem rangesOk_exec (hline : LineOk s) (h : RangesOk s) (ht : exec c s = .next t) : RangesOk t := by
  by_cases hc : c = .resetAssert
  · subst hc
    cases ht
    exact { rangesOk_reset with }
  · exact (moved_of_exec hc ht).ranges hline.synced h

end

/-- Settles O57: every operation is steady, or the run of a request, or a swap of the banks. -/
theorem stepKeepsTableAndRanges : Obligations.StepKeepsTableAndRanges := by
  refine ⟨fun s t h ht => ?table, fun s t h ht => ?waits, fun s t hline h ht => ?ranges⟩
  case table => exact step_keeps (fun _ _ h => h) (fun _ _ _ => tableOk_exec) h ht
  case waits => exact step_keeps (fun _ _ h => h) (fun _ _ _ => restartWaits_of_exec) h ht
  case ranges =>
    have both := step_keeps (P := fun u => LineOk u ∧ RangesOk u) (fun _ _ hu => ⟨{ hu.1 with }, { hu.2 with }⟩)
      (fun _ _ _ hu hnext => ⟨lineOk_exec hu.1 hnext, rangesOk_exec hu.1 hu.2 hnext⟩) ⟨hline, h⟩ ht
    exact both.2

end Sys2Proof.Machine
end

section
/-! SUPPORT and proof of the search of the active bank (R61, R62). -/

namespace Sys2Proof.Machine

/-! ## The first match (R61, R62) -/

theorem EntryPorts.admits_iff (x : EntryPorts) (p : Port) :
    x.admits p = true ↔ x = .either ∨ (x = .a ∧ p = .a) ∨ (x = .b ∧ p = .b) := by
  cases x <;> cases p <;> decide

theorem Entry.hasKind_iff (e : Entry) (k : Kind) :
    e.hasKind k = true ↔ (k = .data ∧ e.kData = true) ∨ (k = .poll ∧ e.kPoll = true) ∨ (k = .answer ∧ e.kAnswer = true) := by
  cases k <;> simp [Entry.hasKind]

/-- R61: two tags agree under a mask exactly when they agree in each bit of it. -/
theorem and_mask_eq_iff {w : Nat} (x y mask : BitVec w) :
    x &&& mask = y &&& mask ↔ ∀ k, mask.getLsbD k = true → x.getLsbD k = y.getLsbD k := by
  constructor
  · intro h k hk
    have bit := congrArg (BitVec.getLsbD · k) h
    simpa [hk] using bit
  · intro h
    refine BitVec.eq_of_getLsbD_eq fun k _ => ?_
    rw [BitVec.getLsbD_and, BitVec.getLsbD_and]
    cases hk : mask.getLsbD k with
    | false => rw [Bool.and_false, Bool.and_false]
    | true => rw [h k hk]

/-- R61: each test of a match, an absent field admitting every value. -/
theorem Entry.isMatch_iff (e : Entry) (p : Port) (h : Header) :
    e.isMatch p h = true ↔
      e.valid = true ∧ (e.ports = .either ∨ (e.ports = .a ∧ p = .a) ∨ (e.ports = .b ∧ p = .b))
      ∧ ((kindOf h.kindFlags = .data ∧ e.kData = true) ∨ (kindOf h.kindFlags = .poll ∧ e.kPoll = true)
        ∨ (kindOf h.kindFlags = .answer ∧ e.kAnswer = true))
      ∧ (∀ k, e.mask.getLsbD k = true → h.tag.getLsbD k = e.tag.getLsbD k)
      ∧ (e.src = none ∨ e.src = some h.src) ∧ (e.dest = none ∨ e.dest = some h.dest) := by
  cases hsrc : e.src <;> cases hdest : e.dest <;>
    simp only [Entry.isMatch, hsrc, hdest, Bool.and_eq_true, decide_eq_true_eq, EntryPorts.admits_iff, Entry.hasKind_iff,
      and_mask_eq_iff, and_assoc, Option.some.injEq, reduceCtorEq, true_or, false_or, true_and, and_true]

/-- R62: the search answers the first index whose entry matches. -/
theorem searchBank_eq_some_iff (b : Bank) (p : Port) (h : Header) (i : Fin 64) :
    searchBank b p h = some i ↔ b[i].isMatch p h = true ∧ ∀ j : Fin 64, j < i → b[j].isMatch p h = false := by
  rw [searchBank, allEntries, List.find?_eq_some_iff_getElem]
  simp only [List.getElem_finRange, Bool.not_eq_true', List.length_finRange]
  refine and_congr_right fun _ => ⟨?_, fun first => ⟨i.val, i.isLt, rfl, fun j hj => first ⟨j, hj.trans i.isLt⟩ hj⟩⟩
  rintro ⟨k, hk, rfl, first⟩ j hj
  exact first j hj

/-- Settles O14: the search is a find over the indexes in ascending order, and each test of isMatch is one of the statement's. -/
theorem firstMatchDecides : Obligations.FirstMatchDecides := by
  intro b p h i
  simp only [searchBank_eq_some_iff, Bool.eq_false_iff, ne_eq, Entry.isMatch_iff]

end Sys2Proof.Machine
end

section
/-! SUPPORT and proofs of the table's requests (R57 to R60, R67 to R74): what the agent answers an accepted request with, the copy from its
start to its completion, the entry record, and the swap. -/

namespace Sys2Proof.Machine

/-! ## The answer to an accepted request (R137, R139, R147) -/

section
variable {f : Handler} {code : Byte} {e : Envelope} {s t : State} {st : Status} {rs : List Byte}

theorem statusByte_eq_zero_iff (st : Status) : statusByte st = 0 ↔ st = .done := by cases st <;> decide

theorem countAnswer_eq (st : Status) (s : State) : countAnswer st s = { s with
    agentStats :=
      if statusByte st = 0 then { s.agentStats with executed := satInc s.agentStats.executed }
      else { s.agentStats with refused := satInc s.agentStats.refused } } := by
  simp only [countAnswer, statusByte_eq_zero_iff]
  split <;> rfl

theorem recordRequest_of_no_copy (hcopy : e.copy = false) (reply : Option (List Byte)) (s : State) :
    recordRequest e reply s = { s with cache := { manager := e.src, seq := e.seq, reply := reply }
      :: (s.cache.filter (fun x => decide (x.manager ≠ e.src))).take 3 } := by
  simp only [recordRequest, hcopy]
  rfl

theorem finishRequest_of_plain (hcopy : e.copy = false) (hroom : (s.queues.get e.port).occupancy < 16) :
    finishRequest e code (.plain st rs) s = answered e (code :: statusByte st :: rs) s := by
  rw [Answer.plain, finishRequest, countAnswer_eq, recordRequest_of_no_copy hcopy, placeReply, place_of_room hroom]
  rfl

/-- R168: a reply that is not the one a restart waits for leaves whether it is due. -/
theorem restartDue_answered (payload : List Byte) (s : State) : restartDue (answered e payload s) = restartDue s := by
  have queued := restartDue_setQueue (p := e.port) (s := s) (q := { s.queues.get e.port with
    entries := (s.queues.get e.port).entries
      ++ [{ body := .mreply e.src s.ownAddr e.seq payload false, time := s.timestamp }] }) (by simp [EntryBody.isNamed])
  exact queued

theorem cachedEntry_of_accepts (h : Accepts e s) : cachedEntry e s = none := by
  obtain ⟨-, -, -, -, fresh, -⟩ := h
  exact List.find?_eq_none.mpr fun x hx => by simpa using fresh x hx

/-- R137: the agent examines an accepted request to its end. -/
theorem requestRow_of_accepts (h : Accepts e s) : requestRow f code e s = .next (settleRestart
    (f.after (runRequest f e s).2 (finishRequest e code (runRequest f e s).2 (runRequest f e s).1))) := by
  have new := cachedEntry_of_accepts h
  obtain ⟨hreset, hrelay, hcopy, hsrc, -, hroom, -⟩ := h
  have examined : agentRequest f code e s
      = f.after (runRequest f e s).2 (finishRequest e code (runRequest f e s).2 (runRequest f e s).1) := by
    rw [agentRequest, if_neg (by simp [hcopy]), if_neg (by simp [relays_iff.mpr hrelay]), if_neg hsrc]
    simp [examine, hcopy, new, Queue.room, hroom]
  rw [requestRow, hreset, examined]
  rfl

theorem runRequest_of_owner (hstep : f.step3 = none) (h : FromOwner e s) : runRequest f e s = f.run e s := by
  obtain ⟨o, ho, haddr⟩ := Option.map_eq_some_iff.mp h
  have passes : ownershipRefusal f.ownerOnly e s = none := by simp [ownershipRefusal, ho, haddr]
  simp only [runRequest, hstep, passes]

/-- R137: an accepted request of the owner, answered with a reply and followed by nothing. -/
theorem requestRow_answers (h : Accepts e s) (ho : FromOwner e s) (hstep : f.step3 = none) (hafter : f.after = noAfter)
    (hrun : f.run e s = (t, .plain st rs)) (hqueues : t.queues = s.queues) (hdue : restartDue t = restartDue s) :
    requestRow f code e s = .next (answered e (code :: statusByte st :: rs) t) := by
  rw [requestRow_of_accepts h, runRequest_of_owner hstep ho, hrun, hafter]
  obtain ⟨-, -, hcopy, -, -, hroom, notDue⟩ := h
  rw [finishRequest_of_plain hcopy (by rw [hqueues]; exact hroom)]
  exact congrArg _ (settleRestart_of_not_due ((restartDue_answered _ _).trans (hdue.trans notDue)))

/-- R137: of an accepted request of the owner that is refused nothing but the answer is left. -/
theorem requestRow_refuses (h : Accepts e s) (ho : FromOwner e s) (hstep : f.step3 = none) (hafter : f.after = noAfter)
    (hrun : f.run e s = (s, .plain st rs)) : requestRow f code e s = .next (answered e (code :: statusByte st :: rs) s) :=
  requestRow_answers h ho hstep hafter hrun rfl rfl

/-- R137: an accepted request of the owner that changes the match engine alone. -/
theorem requestRow_changes_engine {m : MatchEngine} (h : Accepts e s) (ho : FromOwner e s) (hstep : f.step3 = none)
    (hafter : f.after = noAfter) (hrun : f.run e s = ({ s with engine := m }, .plain st rs)) :
    requestRow f code e s = .next (answered e (code :: statusByte st :: rs) { s with engine := m }) :=
  requestRow_answers h ho hstep hafter hrun rfl rfl

end

/-! ## A copy from its start to its completion (R67 to R70) -/

section
variable {e : Envelope} {s : State}

theorem MatchEngine.copying_eq_false {m : MatchEngine} (h : m.copy = .idle) : m.copying = false := by simp [copying, h]

theorem MatchEngine.copying_of_ne_idle {m : MatchEngine} (h : m.copy ≠ .idle) : m.copying = true := by
  unfold copying
  split
  · exact absurd ‹_› h
  · rfl

/-- R147: an accepted BANK-COPY is recorded IN-PROGRESS and counted, its reply room kept as the held place. -/
theorem exec_bankCopy_starts (h : Accepts e s) (ho : FromOwner e s) (hidle : s.engine.copy = .idle) :
    exec (.bankCopy e []) s = .next { s with
      engine := { s.engine with copy := .running 0 e.port e.src e.seq }
      queues := s.queues.set e.port { s.queues.get e.port with held := true }
      cache := { manager := e.src, seq := e.seq, reply := none }
        :: (s.cache.filter (fun x => decide (x.manager ≠ e.src))).take 3
      agentStats := { s.agentStats with executed := satInc s.agentStats.executed } } := by
  have run : (bankCopyHandler []).run e s = (startCopy e s, .copyStarted) :=
    if_neg (by rw [MatchEngine.copying_eq_false hidle]; decide)
  refine (requestRow_of_accepts h).trans ?_
  rw [runRequest_of_owner rfl ho, run]
  obtain ⟨-, -, hcopy, -, -, -, notDue⟩ := h
  have due : restartDue (s.setQueue e.port { s.queues.get e.port with held := true }) = restartDue s := restartDue_setQueue rfl
  simp only [finishRequest, recordRequest_of_no_copy hcopy]
  exact congrArg _ (settleRestart_of_not_due (due.trans notDue))

theorem exec_bankCopy_busy (h : Accepts e s) (ho : FromOwner e s) (hbusy : s.engine.copy ≠ .idle) :
    exec (.bankCopy e []) s = .next (answered e [0x13, 0x07] s) :=
  requestRow_refuses (f := bankCopyHandler []) (st := .busy) (rs := []) h ho rfl rfl
    (if_pos (MatchEngine.copying_of_ne_idle hbusy))

theorem advanceCopy_of_lt {k : Nat} {p : Port} {manager seq : Byte} (h : s.engine.copy = .running k p manager seq)
    (hk : k < 63) : advanceCopy s = { s with engine := { s.engine.copyEntry ⟨k, by omega⟩ with
      copy := .running (k + 1) p manager seq } } := by
  have hlt : k < 64 := by omega
  have hne : k + 1 ≠ 64 := by omega
  simp [advanceCopy, h, hlt, hne]

/-- R68: the last entry copied is copied again by the completion. -/
theorem MatchEngine.finishCopy_copyEntry (m : MatchEngine) (i : Fin 64) (copy : CopyState) :
    ({ m.copyEntry i with copy := copy } : MatchEngine).finishCopy = m.finishCopy := by
  obtain ⟨b0, b1, selector, gen, mark, c⟩ := m
  cases selector <;> rfl

/-- R68: the 64th entry is copied and the copy completes. -/
theorem advanceCopy_at_last {p : Port} {manager seq : Byte} (h : s.engine.copy = .running 63 p manager seq) :
    advanceCopy s = completeCopy s := by
  simp only [advanceCopy, h, completeCopy, copyReply, MatchEngine.finishCopy_copyEntry]
  rfl

/-- R68: what a copy's completion leaves of the match engine. -/
theorem MatchEngine.finishCopy_values (m : MatchEngine) :
    m.finishCopy.copy = .idle ∧ m.finishCopy.selector = m.selector ∧ m.finishCopy.stagingGen = m.stagingGen + 1
    ∧ m.finishCopy.incomplete = false ∧ m.finishCopy.active = m.active
    ∧ ∀ i : Fin 64, m.finishCopy.staging[i] = { m.active[i] with hits := 0 } := by
  obtain ⟨b0, b1, selector, gen, mark, c⟩ := m
  cases selector with
  | zero => exact ⟨rfl, rfl, rfl, rfl, rfl, getElem_mapVec _ _⟩
  | one => exact ⟨rfl, rfl, rfl, rfl, rfl, getElem_mapVec _ _⟩

/-- R68: the reply of a completed copy goes into the held place, if it still stands. -/
theorem completeCopy_of_running {k : Nat} {p : Port} {manager seq : Byte} (h : s.engine.copy = .running k p manager seq) :
    completeCopy s = { s with
      engine := s.engine.finishCopy
      cache := completeCache manager seq (copyReply s.engine) s.cache
      queues := if (s.queues.get p).held then s.queues.set p
          { entries := (s.queues.get p).entries
              ++ [{ body := .mreply manager s.ownAddr seq (copyReply s.engine) false, time := s.timestamp }], held := false }
        else s.queues } := by
  simp only [completeCopy, h, fillHeldPlace]
  split <;> rfl

theorem completeCopy_of_idle (h : s.engine.copy = .idle) : completeCopy s = s := by simp [completeCopy, h]

theorem advanceCopy_of_idle (h : s.engine.copy = .idle) : advanceCopy s = s := by simp [advanceCopy, h]

end

/-- Settles O40: the start by the request, the advance and the completion by the copy's position. -/
theorem bankCopyRunsToCompletion : Obligations.BankCopyRunsToCompletion := by
  have released {s : State} (h : s.resetPin = false) {u : State} :
      (if s.resetPin then .next s else .next u : Host.Outcome State Fault Refusal) = .next u :=
    if_neg (by rw [h]; decide)
  refine ⟨fun e s => exec_bankCopy_starts, fun e s => exec_bankCopy_busy, fun s k p manager seq hreset hcopy hk => ?advance,
    fun s p manager seq hcopy => ?last, fun s k p manager seq hreset hcopy => ?complete, fun s hidle => ?idle⟩
  case advance => exact (released hreset).trans (congrArg _ (advanceCopy_of_lt hcopy hk))
  case last =>
    simp only [exec, execBankCopyAdvance, execBankCopyComplete, advanceCopy_at_last hcopy]
  case complete =>
    have reply : copyReply s.engine = [0x13, 0x00] ++ bytes16 (s.engine.stagingGen + 1) := by
      obtain ⟨-, -, gen, -⟩ := s.engine.finishCopy_values
      rw [copyReply, gen]
    refine ⟨s.engine.finishCopy, (released hreset).trans (congrArg _ ?_), s.engine.finishCopy_values⟩
    rw [completeCopy_of_running hcopy, reply]
    rfl
  case idle =>
    constructor
    · exact (congrArg _ (congrArg _ (advanceCopy_of_idle hidle))).trans (ite_self _)
    · exact (congrArg _ (congrArg _ (completeCopy_of_idle hidle))).trans (ite_self _)

/-! ## The swap (R73, R74) -/

theorem MatchEngine.swap_staging (m : MatchEngine) : m.swap.staging = m.active := by
  obtain ⟨b0, b1, selector, gen, mark, c⟩ := m
  cases selector <;> rfl

/-- Settles O42: each refusal by its check, and the swap by the change of the selector. -/
theorem bankSwapExchangesBanks : Obligations.BankSwapExchangesBanks := by
  intro e hi lo s h ho
  have idle (hcopy : s.engine.copy = .idle) : ¬s.engine.copying = true := by
    rw [MatchEngine.copying_eq_false hcopy]
    decide
  have refused {st : Status} {rs : List Byte} (hrun : runBankSwap (half hi lo) s = (s, .plain st rs)) :
      exec (.bankSwap e [hi, lo]) s = .next (answered e (0x14 :: statusByte st :: rs) s) :=
    requestRow_refuses (f := bankSwapHandler [hi, lo]) h ho rfl rfl hrun
  refine ⟨fun hcopy hmark hgen => ?swap, fun hcopy => ?busy, fun hcopy hmark => ?incomplete, fun hcopy hmark hgen => ?stale⟩
  case swap =>
    refine ⟨s.engine.swap, ?_, rfl, rfl, rfl, s.engine.swap_staging, rfl, rfl⟩
    refine requestRow_changes_engine (f := bankSwapHandler [hi, lo]) (st := .done) h ho rfl rfl ?_
    refine (if_neg (idle hcopy)).trans ((if_neg ?_).trans (if_neg (not_not.mpr hgen)))
    rw [hmark]
    decide
  case busy => exact refused (if_pos (MatchEngine.copying_of_ne_idle hcopy))
  case incomplete => exact refused ((if_neg (idle hcopy)).trans (if_pos hmark))
  case stale => exact refused ((if_neg (idle hcopy)).trans ((if_neg (by rw [hmark]; decide)).trans (if_pos hgen)))

end Sys2Proof.Machine
end

section
/-! SUPPORT and proof of ENTRY-WRITE and ENTRY-CLEAR (R57 to R59, R183): which records are out of range, what entry a record carries, and
what the two requests leave of the table. -/

namespace Sys2Proof.Machine

/-! ## The entry record (R183, R184) -/

section
variable {r : List Byte} {x : Entry}

theorem entryPortsOf_eq_none_iff (b : Byte) : entryPortsOf b = none ↔ 3 ≤ b.toNat := by
  unfold entryPortsOf
  split_ifs with h0 h1 h2
  case neg =>
    simp only [true_iff]
    bv_omega
  all_goals simp [*]

theorem actionOf_eq_none_iff (b : Byte) : actionOf b = none ↔ 6 ≤ b.toNat := by
  unfold actionOf
  split_ifs with h0 h1 h2 h3 h4 h5
  case neg =>
    simp only [true_iff]
    bv_omega
  all_goals simp [*]

theorem entryPortsOf_entryPortsByte (x : EntryPorts) : entryPortsOf (entryPortsByte x) = some x := by cases x <;> rfl

theorem actionOf_actionByte (x : Action) : actionOf (actionByte x) = some x := by cases x <;> rfl

theorem indexOfByte_eq_none_iff (b : Byte) : indexOfByte b = none ↔ 64 ≤ b.toNat := by simp [indexOfByte]

theorem half_bytes16 (y : Half) : half (y.extractLsb' 8 8) (y.extractLsb' 0 8) = y := (bytes_eq_bytes16_iff _ _ _).mp rfl

/-- R57 step 2: the values of a record that are out of their ranges. -/
theorem entryBadValue_iff (r : List Byte) : entryBadValue r = true ↔
    3 ≤ (r.getD 1 0).toNat ∨ 8 ≤ (r.getD 2 0).toNat ∨ 6 ≤ (r.getD 10 0).toNat
    ∨ (r.getD 3 0).getLsbD 0 = true ∧ r.getD 8 0 = 255 ∨ (r.getD 3 0).getLsbD 2 = true ∧ 32 ≤ (r.getD 11 0).toNat := by
  simp only [entryBadValue, Bool.or_eq_true, Bool.and_eq_true, decide_eq_true_eq, Option.isNone_iff_eq_none,
    entryPortsOf_eq_none_iff, actionOf_eq_none_iff, or_assoc]

/-- R183, R184: the bytes of a record are those of an entry, but for bits that do not count and the bytes of absent fields. -/
structure Carries (r : List Byte) (x : Entry) : Prop where
  valid   : x.valid = (r.getD 0 0).getLsbD 0
  ports   : entryPortsByte x.ports = r.getD 1 0
  kData   : x.kData = (r.getD 2 0).getLsbD 0
  kPoll   : x.kPoll = (r.getD 2 0).getLsbD 1
  kAnswer : x.kAnswer = (r.getD 2 0).getLsbD 2
  tag     : x.tag = half (r.getD 4 0) (r.getD 5 0)
  mask    : x.mask = half (r.getD 6 0) (r.getD 7 0)
  src     : x.src = if (r.getD 3 0).getLsbD 0 then some (r.getD 8 0) else none
  dest    : x.dest = if (r.getD 3 0).getLsbD 1 then some (r.getD 9 0) else none
  action  : actionByte x.action = r.getD 10 0
  slot    : x.slot.map slotByte = if (r.getD 3 0).getLsbD 2 then some (r.getD 11 0) else none

theorem Carries.entryOfRecord_eq (h : Carries r x) : entryOfRecord r = { x with hits := 0 } := by
  have slot : (if (r.getD 3 0).getLsbD 2 then slotOfByte (r.getD 11 0) else none) = x.slot := by
    have carried := h.slot
    split at carried
    · obtain ⟨n, hn, hbyte⟩ := Option.map_eq_some_iff.mp carried
      rw [if_pos ‹_›, ← hbyte, slotOfByte_slotByte, hn]
    · rw [if_neg ‹_›, Option.map_eq_none_iff.mp carried]
  rw [entryOfRecord, slot, ← h.valid, ← h.ports, ← h.kData, ← h.kPoll, ← h.kAnswer, ← h.tag, ← h.mask, ← h.src, ← h.dest,
    ← h.action, entryPortsOf_entryPortsByte, actionOf_actionByte]
  rfl

theorem flagByte_getLsbD (b : Bool) : (flagByte b).getLsbD 0 = b := by cases b <;> rfl

theorem threeFlags_getLsbD (a b c : Bool) :
    ((if a then 1 else 0) ||| (if b then 2 else 0) ||| (if c then 4 else 0) : Byte).getLsbD 0 = a
    ∧ ((if a then 1 else 0) ||| (if b then 2 else 0) ||| (if c then 4 else 0) : Byte).getLsbD 1 = b
    ∧ ((if a then 1 else 0) ||| (if b then 2 else 0) ||| (if c then 4 else 0) : Byte).getLsbD 2 = c
    ∧ ((if a then 1 else 0) ||| (if b then 2 else 0) ||| (if c then 4 else 0) : Byte).toNat < 8 := by
  revert a b c
  decide

theorem carries_entryBytes (x : Entry) : Carries (entryBytes x) x := by
  obtain ⟨kData, kPoll, kAnswer, -⟩ := threeFlags_getLsbD x.kData x.kPoll x.kAnswer
  obtain ⟨src, dest, slot, -⟩ := threeFlags_getLsbD x.src.isSome x.dest.isSome x.slot.isSome
  exact {
    valid := (flagByte_getLsbD x.valid).symm
    ports := rfl
    kData := kData.symm
    kPoll := kPoll.symm
    kAnswer := kAnswer.symm
    tag := (half_bytes16 x.tag).symm
    mask := (half_bytes16 x.mask).symm
    src := by
      refine Eq.trans ?_ (congrArg (fun b : Bool => if b then some (x.src.getD 0) else none) src.symm)
      cases x.src <;> rfl
    dest := by
      refine Eq.trans ?_ (congrArg (fun b : Bool => if b then some (x.dest.getD 0) else none) dest.symm)
      cases x.dest <;> rfl
    action := rfl
    slot := by
      refine Eq.trans ?_ (congrArg (fun b : Bool => if b then some ((entryBytes x).getD 11 0) else none) slot.symm)
      cases h : x.slot <;> simp [entryBytes, bytes16, h] }

/-- R57 step 2: the one value of an entry that its type lets out of its range is a src of 255. -/
theorem entryBadValue_entryBytes (h : x.src ≠ some 255) : entryBadValue (entryBytes x) = false := by
  have carried := carries_entryBytes x
  obtain ⟨-, -, -, kinds⟩ := threeFlags_getLsbD x.kData x.kPoll x.kAnswer
  rw [Bool.eq_false_iff, ne_eq, entryBadValue_iff, ← entryPortsOf_eq_none_iff, ← actionOf_eq_none_iff, ← carried.ports,
    ← carried.action, entryPortsOf_entryPortsByte, actionOf_actionByte]
  rintro (hports | hkinds | haction | ⟨hpresent, hsrc⟩ | ⟨hpresent, hslot⟩)
  · cases hports
  · exact absurd hkinds (not_le.mpr kinds)
  · cases haction
  · exact h (by rw [carried.src, if_pos hpresent, hsrc])
  · have slot := carried.slot
    rw [if_pos hpresent] at slot
    obtain ⟨n, -, hbyte⟩ := Option.map_eq_some_iff.mp slot
    have small : (slotByte n).toNat < 32 := by
      rw [slotByte, BitVec.toNat_ofNat]
      omega
    rw [← hbyte] at hslot
    omega

end

/-! ## ENTRY-WRITE (R57, R58) -/

section
variable {e : Envelope} {s : State} {b : Byte} {r : List Byte}

theorem runEntryWrite_busy (h : s.engine.copy ≠ .idle) : runEntryWrite b r s = (s, .plain .busy []) :=
  if_pos (MatchEngine.copying_of_ne_idle h)

theorem runEntryWrite_of_unfit (h : s.engine.copy = .idle) (i : Fin 64) (hvalue : entryBadValue r = false)
    (hunfit : entryUnfit (entryOfRecord r) = true) : runEntryWrite (indexByte i) r s = (s, .plain .badEntry []) := by
  simp only [runEntryWrite, MatchEngine.copying_eq_false h, indexOfByte_indexByte, hvalue, hunfit]
  rfl

theorem runEntryWrite_of_fit (h : s.engine.copy = .idle) (i : Fin 64) (hvalue : entryBadValue r = false)
    (hfit : entryUnfit (entryOfRecord r) = false) : runEntryWrite (indexByte i) r s
      = ({ s with engine := s.engine.writeStaging i (entryOfRecord r) },
        .plain .done (bytes16 (s.engine.stagingGen + 1))) := by
  simp only [runEntryWrite, MatchEngine.copying_eq_false h, indexOfByte_indexByte, hvalue, hfit]
  rfl

theorem runEntryWrite_of_bad_value (h : s.engine.copy = .idle) (hbad : 64 ≤ b.toNat ∨ entryBadValue r = true) :
    runEntryWrite b r s = (s, .plain .badValue []) := by
  simp only [runEntryWrite, MatchEngine.copying_eq_false h]
  rcases hbad with hindex | hvalue
  · rw [(indexOfByte_eq_none_iff b).mpr hindex]
    rfl
  · rw [hvalue]
    cases indexOfByte b <;> rfl

/-- R183: what an ENTRY-WRITE does rests on the entry its record carries. -/
theorem runEntryWrite_congr {r' : List Byte} (hvalue : entryBadValue r = entryBadValue r')
    (hentry : entryOfRecord r = entryOfRecord r') : runEntryWrite b r s = runEntryWrite b r' s := by
  simp only [runEntryWrite, hvalue, hentry]

theorem entryWrite_step3 (hr : r.length = 12) : (entryWriteHandler (b :: r)).step3 = none :=
  if_pos (by rw [List.length_cons, hr])

section
variable (h : Accepts e s) (ho : FromOwner e s) (hr : r.length = 12)
include h ho hr

theorem exec_entryWrite_refuses {st : Status} {rs : List Byte} (hrun : runEntryWrite b r s = (s, .plain st rs)) :
    exec (.entryWrite e (b :: r)) s = .next (answered e (0x11 :: statusByte st :: rs) s) :=
  requestRow_refuses h ho (entryWrite_step3 hr) rfl hrun

theorem exec_entryWrite_congr {r' : List Byte} (hr' : r'.length = 12) (hrun : runEntryWrite b r s = runEntryWrite b r' s) :
    exec (.entryWrite e (b :: r)) s = exec (.entryWrite e (b :: r')) s := by
  have same : runRequest (entryWriteHandler (b :: r)) e s = runRequest (entryWriteHandler (b :: r')) e s :=
    (runRequest_of_owner (entryWrite_step3 hr) ho).trans (hrun.trans (runRequest_of_owner (entryWrite_step3 hr') ho).symm)
  refine (requestRow_of_accepts h).trans ((congrArg _ ?_).trans (requestRow_of_accepts h).symm)
  rw [same]
  rfl

end

theorem entryBytes_length (x : Entry) : (entryBytes x).length = 12 := rfl

/-! ## ENTRY-CLEAR (R59) -/

theorem runEntryClear_busy (h : s.engine.copy ≠ .idle) : runEntryClear b s = (s, .plain .busy []) :=
  if_pos (MatchEngine.copying_of_ne_idle h)

theorem runEntryClear_all (h : s.engine.copy = .idle) : runEntryClear 0xFF s
    = ({ s with engine := s.engine.clearStaging }, .plain .done (bytes16 (s.engine.stagingGen + 1))) := by
  simp only [runEntryClear, MatchEngine.copying_eq_false h]
  rfl

theorem indexByte_ne (i : Fin 64) : indexByte i ≠ 0xFF := by
  revert i
  decide

theorem runEntryClear_of_index (h : s.engine.copy = .idle) (i : Fin 64) : runEntryClear (indexByte i) s
    = ({ s with engine := s.engine.writeStaging i Entry.cleared }, .plain .done (bytes16 (s.engine.stagingGen + 1))) := by
  simp only [runEntryClear, MatchEngine.copying_eq_false h, if_neg (indexByte_ne i), indexOfByte_indexByte]
  rfl

theorem runEntryClear_of_bad_index (h : s.engine.copy = .idle) (hb : b ≠ 0xFF) (hindex : 64 ≤ b.toNat) :
    runEntryClear b s = (s, .plain .badValue []) := by
  simp only [runEntryClear, MatchEngine.copying_eq_false h, if_neg hb, (indexOfByte_eq_none_iff b).mpr hindex]
  rfl

end

/-- Settles O41: each request by its checks in their order, a raw record by the entry it carries. -/
theorem entryWriteAndClearChangeStaging : Obligations.EntryWriteAndClearChangeStaging := by
  intro e s h ho gen table
  refine ⟨fun i x hidle hfits hkinds => ?write, fun b r hbusy hr => ?writeBusy,
    fun b valid ports kinds present t1 t0 m1 m0 src dest action slot hidle => ?raw, fun i x hidle hsrc hunfit => ?unfit,
    fun i hidle => ?clear, fun hidle => ?clearAll, fun b hidle hindex hb => ?badIndex, fun b hbusy => ?clearBusy⟩
  case write =>
    have carried := (carries_entryBytes x).entryOfRecord_eq
    obtain ⟨-, hsrc, -⟩ := id hfits
    have fit : entryUnfit (entryOfRecord (entryBytes x)) = false := by
      rw [carried]
      exact (entryUnfit_eq_false_iff (x := { x with hits := 0 }) hsrc).mpr ⟨hfits, hkinds⟩
    have run := runEntryWrite_of_fit hidle i (entryBadValue_entryBytes hsrc) fit
    rw [carried] at run
    exact requestRow_changes_engine (f := entryWriteHandler (indexByte i :: entryBytes x)) (st := .done) h ho rfl rfl run
  case writeBusy => exact exec_entryWrite_refuses h ho hr (runEntryWrite_busy hbusy)
  case raw =>
    intro run outOfRange
    have range := entryBadValue_iff [valid, ports, kinds, present, t1, t0, m1, m0, src, dest, action, slot]
    constructor
    · intro hout
      exact exec_entryWrite_refuses h ho rfl (runEntryWrite_of_bad_value hidle (hout.imp_right range.mpr))
    · intro x hin hvalid hports hdata hpoll hanswer htag hmask hsrc hdest haction hslot
      have carried : Carries [valid, ports, kinds, present, t1, t0, m1, m0, src, dest, action, slot] x :=
        ⟨hvalid, hports, hdata, hpoll, hanswer, htag, hmask, hsrc, hdest, haction, hslot⟩
      have inRange := Bool.eq_false_iff.mpr (mt range.mp fun hbad => hin (.inr hbad))
      have present_src : x.src ≠ some 255 := by
        have named := entryOfRecord_src_ne inRange
        rwa [carried.entryOfRecord_eq] at named
      exact exec_entryWrite_congr h ho rfl (entryBytes_length x) (runEntryWrite_congr
        (inRange.trans (entryBadValue_entryBytes present_src).symm)
        (carried.entryOfRecord_eq.trans (carries_entryBytes x).entryOfRecord_eq.symm))
  case unfit =>
    have refused : entryUnfit (entryOfRecord (entryBytes x)) = true := by
      rw [(carries_entryBytes x).entryOfRecord_eq]
      exact Bool.of_not_eq_false (mt (entryUnfit_eq_false_iff (x := { x with hits := 0 }) hsrc).mp hunfit)
    exact exec_entryWrite_refuses h ho (entryBytes_length x)
      (runEntryWrite_of_unfit hidle i (entryBadValue_entryBytes hsrc) refused)
  case clear =>
    exact requestRow_changes_engine (f := entryClearHandler [indexByte i]) (st := .done) h ho rfl rfl
      (runEntryClear_of_index hidle i)
  case clearAll =>
    exact requestRow_changes_engine (f := entryClearHandler [0xFF]) (st := .done) h ho rfl rfl (runEntryClear_all hidle)
  case badIndex =>
    exact requestRow_refuses (f := entryClearHandler [b]) h ho rfl rfl (runEntryClear_of_bad_index hidle hb hindex)
  case clearBusy =>
    exact requestRow_refuses (f := entryClearHandler [b]) h ho rfl rfl (runEntryClear_busy hbusy)

end Sys2Proof.Machine
end

section
/-! SUPPORT and proofs of the lapse of a hold (R94, R95) and of the slot requests (R81 to R83, R89 to R93, R102, R103, R128 to R130):
the values out of range, what each request does by the slot's kind and state, and what is answered. -/

namespace Sys2Proof.Machine

/-! ## The lapse of a hold (R94, R95) -/

section
variable {n : Fin 32} {s : State} {c : CapturedRecord} {o : Bool} {q : Option CapturedRecord} {k : Nat}

theorem lapse_eq_slotEvent (h : s.slots[n].body = .capture (.held c o q k)) : lapse n s = slotEvent n { s with
    slots := s.slots.set n (lapsedSlot c o q s.slots[n])
    holdList := s.holdList.filter (fun m => decide (m ≠ n)) } := by
  cases q with
  | none => exact lapse_of_held h
  | some r => exact lapse_of_held_pending h

theorem lapsedSlot_notify (c : CapturedRecord) (o : Bool) (q : Option CapturedRecord) (x : Slot) :
    (lapsedSlot c o q x).notify = x.notify := by
  cases q <;> rfl

theorem slotEvent_eq (n : Fin 32) (s : State) :
    slotEvent n s = if s.slots[n].notify then offerNotice (noted (slotBit n) s) else s := rfl

theorem lapse_of_isHeld_eq_false (h : s.slots[n].isHeld = false) : lapse n s = s :=
  lapse_of_not_held fun _ _ _ _ hbody => by
    rw [Slot.isHeld, hbody] at h
    cases h

end

/-- Settles O37: the lapse of a HELD slot with its event, and nothing for another slot. -/
theorem lapseReturnsSlotToFull : Obligations.LapseReturnsSlotToFull := by
  refine ⟨fun n s c o q k hreset hbody => ?held, fun n s hfree => ?free⟩
  case held =>
    have row : exec (.holdTimerExpiry n) s = .next (lapse n s) := if_neg (by rw [hreset]; decide)
    have notify : (s.slots.set n (lapsedSlot c o q s.slots[n]))[n].notify = s.slots[n].notify :=
      (congrArg Slot.notify (Vector.getElem_set_self _)).trans (lapsedSlot_notify c o q _)
    rw [row, lapse_eq_slotEvent hbody, slotEvent_eq, notify]
    rfl
  case free => exact (congrArg _ (congrArg _ (lapse_of_isHeld_eq_false hfree))).trans (ite_self _)

/-! ## The answers to the slot requests (R137, R140) -/

section
variable {f : Handler} {code : Byte} {e : Envelope} {s t : State} {st : Status} {rs : List Byte}

/-- R137: an accepted request, whatever its sender, answered with a reply and followed by nothing. -/
theorem requestRow_of_runRequest (h : Accepts e s) (hafter : f.after = noAfter) (hrun : runRequest f e s = (t, .plain st rs))
    (hroom : (t.queues.get e.port).occupancy < 16) (hdue : restartDue t = restartDue s) :
    requestRow f code e s = .next (answered e (code :: statusByte st :: rs) t) := by
  rw [requestRow_of_accepts h, hrun, hafter]
  obtain ⟨-, -, hcopy, -, -, -, notDue⟩ := h
  rw [finishRequest_of_plain hcopy hroom]
  exact congrArg _ (settleRestart_of_not_due ((restartDue_answered _ _).trans (hdue.trans notDue)))

/-- R137: an accepted request of the owner that changes the slots and the hold list alone. -/
theorem requestRow_changes_slots {v : Vector Slot 32} {l : List (Fin 32)} (h : Accepts e s) (ho : FromOwner e s)
    (hstep : f.step3 = none) (hafter : f.after = noAfter)
    (hrun : f.run e s = ({ s with slots := v, holdList := l }, .plain st rs)) :
    requestRow f code e s = .next (answered e (code :: statusByte st :: rs) { s with slots := v, holdList := l }) :=
  requestRow_answers h ho hstep hafter hrun rfl rfl

/-- R140: an owner-only request of a sender that is not the owner. -/
theorem requestRow_of_ownershipRefusal (h : Accepts e s) (hstep : f.step3 = none) (hafter : f.after = noAfter)
    (hrefused : ownershipRefusal f.ownerOnly e s = some (.plain st rs)) :
    requestRow f code e s = .next (answered e (code :: statusByte st :: rs) s) := by
  have run : runRequest f e s = (s, .plain st rs) := by simp only [runRequest, hstep, hrefused]
  have ⟨_, _, _, _, _, hroom, _⟩ := h
  exact requestRow_of_runRequest h hafter run hroom rfl

theorem ownershipRefusal_of_unowned (h : s.owner = none) : ownershipRefusal true e s = some (.plain .noOwner []) := by
  simp [ownershipRefusal, h]

theorem ownershipRefusal_of_other {o : Owner} (ho : s.owner = some o) (h : o.addr ≠ e.src) :
    ownershipRefusal true e s = some (.plain .owned (o.addr :: bytes16 (BitVec.ofNat 16 o.lease))) := by
  simp [ownershipRefusal, ho, h]

end

/-! ## Bytes of the slot requests (R183, R184) -/

theorem slotOfByte_eq_none_iff (b : Byte) : slotOfByte b = none ↔ 32 ≤ b.toNat := by simp [slotOfByte]

theorem beaconPortsOf_eq_none_iff (b : Byte) : beaconPortsOf b = none ↔ 3 ≤ b.toNat := by
  unfold beaconPortsOf
  split_ifs with h0 h1 h2
  case neg =>
    simp only [true_iff]
    bv_omega
  all_goals simp [*]

theorem beaconPortsOf_beaconPortsByte (x : BeaconPorts) : beaconPortsOf (beaconPortsByte x) = some x := by cases x <;> rfl

theorem not_flag_iff (b : Byte) : (b ≠ 0 ∧ b ≠ 1) ↔ 2 ≤ b.toNat := by
  constructor
  · rintro ⟨h0, h1⟩
    bv_omega
  · intro h
    constructor <;> bv_omega

theorem flagByte_eq_one (f : Bool) : decide (flagByte f = 1) = f := by cases f <;> rfl

theorem flagByte_toNat_lt (f : Bool) : (flagByte f).toNat < 2 := by cases f <;> decide

/-! ## SLOT-SETUP (R81, R82, R130, R160) -/

section
variable {e : Envelope} {n : Fin 32} {s : State} {ps : List Byte} {latch : Bool}

theorem setupSlot_eq (n : Fin 32) (f : Bool) (body : SlotBody) (s : State) : setupSlot n f body s = { s with
    slots := s.slots.set n { notify := f, gen := s.slots[n].gen + 1, count := 0, body := body }
    holdList := s.holdList.filter (fun m => decide (m ≠ n))
    queues := ⟨{ s.queues.a with entries := s.queues.a.entries.filter (fun z => !z.body.names n) },
               { s.queues.b with entries := s.queues.b.entries.filter (fun z => !z.body.names n) }⟩
    dirStats :=
      ⟨{ s.dirStats.ab with
          withdrawn := satAdd s.dirStats.ab.withdrawn (s.queues.b.entries.filter (fun z => z.body.names n)).length },
       { s.dirStats.ba with
          withdrawn := satAdd s.dirStats.ba.withdrawn (s.queues.a.entries.filter (fun z => z.body.names n)).length }⟩ } := rfl

theorem EntryBody.isNamed_of_names {b : EntryBody} (h : b.names n = true) : b.isNamed = false := by
  cases b with
  | mreply => simp [EntryBody.names, EntryBody.slotField] at h
  | _ => rfl

theorem restartDue_setupSlot (n : Fin 32) (f : Bool) (body : SlotBody) (s : State) :
    restartDue (setupSlot n f body s) = restartDue s :=
  restartDue_withdraw (fun _ => EntryBody.isNamed_of_names) _

theorem setupSlot_occupancy_le (n : Fin 32) (f : Bool) (body : SlotBody) (s : State) (p : Port) :
    ((setupSlot n f body s).queues.get p).occupancy ≤ (s.queues.get p).occupancy := by
  rw [setupSlot, withdraw_queues_get]
  exact Nat.add_le_add_right (List.length_filter_le _ _) _

theorem runSlotSetup_of_body {f : Bool} {body : SlotBody} (hslot : ps.getD 0 0 = slotByte n) (hflag : ps.getD 2 0 = flagByte f)
    (hbody : setupBody s.latch ps = some body) : runSlotSetup ps s
      = (setupSlot n f body s, .plain .done [slotByte n, kindByte body, s.slots[n].gen + 1]) := by
  have flag : ¬(flagByte f ≠ 0 ∧ flagByte f ≠ 1) := mt (not_flag_iff _).mp (not_le.mpr (flagByte_toNat_lt f))
  simp only [runSlotSetup, hslot, slotOfByte_slotByte, hflag, if_neg flag, hbody, flagByte_eq_one]

theorem runSlotSetup_of_bad_value
    (h : 32 ≤ (ps.getD 0 0).toNat ∨ 2 ≤ (ps.getD 2 0).toNat ∨ setupBody s.latch ps = none) :
    runSlotSetup ps s = (s, .plain .badValue []) := by
  unfold runSlotSetup
  split
  · rfl
  · next n hslot =>
    split
    · rfl
    · next hflag =>
      split
      · rfl
      · next body hbody =>
        rcases h with hs | hf | hb
        · cases hslot.symm.trans ((slotOfByte_eq_none_iff _).mpr hs)
        · exact absurd ((not_flag_iff _).mpr hf) hflag
        · cases hbody.symm.trans hb

theorem setupBody_answer (b f : Byte) (age : Half) : setupBody latch ([b, 2, f] ++ bytes16 age)
    = some (.answer { maxAge := age, content := .none, age := 0 }) := by
  simp [setupBody, bytes16, half_bytes16]

theorem setupBody_beacon_of_fields (b f : Byte) (tag interval : Half) (ports : BeaconPorts) (dest : Option Byte)
    (h : interval ≠ 0) :
    setupBody latch ([b, 3, f] ++ bytes16 tag ++ [beaconPortsByte ports] ++ bytes16 interval ++ dest.toList) = some (.beacon
      { tag := tag, dest := dest.getD 255, ports := ports, interval := interval, payload := [], seq := 0,
        timer := if latch then none else some interval.toNat }) := by
  have positive : interval ≠ 0#16 := h
  cases dest <;> simp [setupBody, bytes16, half_bytes16, beaconPortsOf_beaconPortsByte, positive]

theorem ne_kinds_of_le {kind : Byte} (h : 4 ≤ kind.toNat) : kind ≠ 0 ∧ kind ≠ 1 ∧ kind ≠ 2 ∧ kind ≠ 3 := by
  refine ⟨?_, ?_, ?_, ?_⟩ <;> bv_omega

theorem setupBody_of_bad_kind {b kind f : Byte} (h : 4 ≤ kind.toNat) : setupBody latch (b :: kind :: f :: ps) = none := by
  obtain ⟨h0, h1, h2, h3⟩ := ne_kinds_of_le h
  simp only [setupBody, List.getD_cons_succ, List.getD_cons_zero, h0, h1, h2, h3, if_false]

theorem setupLength_of_bad_kind {b kind f : Byte} (h : 4 ≤ kind.toNat) : setupLength (b :: kind :: f :: ps) = none := by
  obtain ⟨h0, h1, h2, h3⟩ := ne_kinds_of_le h
  have long : ¬(b :: kind :: f :: ps).length < 3 := by simp
  simp only [setupLength, List.getD_cons_succ, List.getD_cons_zero, if_neg long, h0, h1, h2, h3, or_self, if_false]

theorem setupBody_of_bad_beacon {b f t1 t0 q i1 i0 : Byte} (h : 3 ≤ q.toNat ∨ half i1 i0 = 0) :
    setupBody latch [b, 3, f, t1, t0, q, i1, i0] = none := by
  rcases h with hports | hinterval
  · simp [setupBody, (beaconPortsOf_eq_none_iff q).mpr hports]
  · cases hq : beaconPortsOf q <;> simp [setupBody, hq, hinterval]

theorem setupLength_beacon (b f : Byte) (tag interval : Half) (ports : BeaconPorts) (dest : Option Byte) :
    setupLength ([b, 3, f] ++ bytes16 tag ++ [beaconPortsByte ports] ++ bytes16 interval ++ dest.toList) = none := by
  cases dest <;> rfl

section
variable (h : Accepts e s) (ho : FromOwner e s) (hlength : setupLength ps = none)
include h ho hlength

theorem exec_slotSetup_done {f : Bool} {body : SlotBody} (hslot : ps.getD 0 0 = slotByte n) (hflag : ps.getD 2 0 = flagByte f)
    (hbody : setupBody s.latch ps = some body) : exec (.slotSetup e ps) s
      = .next (answered e [0x20, 0x00, slotByte n, kindByte body, s.slots[n].gen + 1] (setupSlot n f body s)) := by
  have run : runRequest (slotSetupHandler ps) e s
      = (setupSlot n f body s, .plain .done [slotByte n, kindByte body, s.slots[n].gen + 1]) :=
    (runRequest_of_owner hlength ho).trans (runSlotSetup_of_body hslot hflag hbody)
  have ⟨_, _, _, _, _, hroom, _⟩ := h
  exact requestRow_of_runRequest h rfl run ((setupSlot_occupancy_le n f body s e.port).trans_lt hroom)
    (restartDue_setupSlot n f body s)

theorem exec_slotSetup_bad_value
    (hbad : 32 ≤ (ps.getD 0 0).toNat ∨ 2 ≤ (ps.getD 2 0).toNat ∨ setupBody s.latch ps = none) :
    exec (.slotSetup e ps) s = .next (answered e [0x20, 0x04] s) :=
  requestRow_refuses (f := slotSetupHandler ps) h ho hlength rfl (runSlotSetup_of_bad_value hbad)

end

end

/-! ## SLOT-LOAD (R103, R129, R161) -/

section
variable {e : Envelope} {n : Fin 32} {s : State} {b : Byte} {bs : List Byte}

theorem not_too_long (h : bs.length ≤ 32) : ¬33 < (b :: bs).length := Nat.not_lt.mpr (Nat.succ_le_succ h)

theorem runSlotLoad_of_answer {y : AnswerSlot} (hbody : s.slots[n].body = .answer y) (hlength : bs.length ≤ 32) :
    runSlotLoad (slotByte n :: bs) s
      = (s.setSlot n { s.slots[n] with body := .answer { y with content := .loaded bs, age := 0 } },
        .plain .done [slotByte n, 0x01, s.slots[n].gen]) := by
  simp only [runSlotLoad, List.getD_cons_zero, slotOfByte_slotByte, if_neg (not_too_long hlength), hbody]
  rfl

theorem runSlotLoad_of_beacon {y : BeaconSlot} (hbody : s.slots[n].body = .beacon y) (hlength : bs.length ≤ 32) :
    runSlotLoad (slotByte n :: bs) s
      = (s.setSlot n { s.slots[n] with body := .beacon { y with payload := bs } },
        .plain .done [slotByte n, s.slots[n].gen]) := by
  simp only [runSlotLoad, List.getD_cons_zero, slotOfByte_slotByte, if_neg (not_too_long hlength), hbody]
  rfl

theorem runSlotLoad_of_other_kind (hanswer : ∀ y, s.slots[n].body ≠ .answer y) (hbeacon : ∀ y, s.slots[n].body ≠ .beacon y)
    (hlength : bs.length ≤ 32) :
    runSlotLoad (slotByte n :: bs) s = (s, .plain .wrongKind [slotByte n, kindByte s.slots[n].body]) := by
  cases hbody : s.slots[n].body with
  | unused | capture =>
    simp only [runSlotLoad, List.getD_cons_zero, slotOfByte_slotByte, if_neg (not_too_long hlength), hbody]
  | answer y => exact absurd hbody (hanswer y)
  | beacon y => exact absurd hbody (hbeacon y)

theorem runSlotLoad_of_bad_value (h : 32 ≤ b.toNat ∨ 32 < bs.length) : runSlotLoad (b :: bs) s = (s, .plain .badValue []) := by
  unfold runSlotLoad
  split
  · rfl
  · next n hslot =>
    rcases h with hbyte | hlong
    · cases hslot.symm.trans ((slotOfByte_eq_none_iff b).mpr hbyte)
    · exact if_pos (Nat.succ_lt_succ hlong)

theorem slotLoad_step3 (h : bs.length ≤ 58) : (slotLoadHandler (b :: bs)).step3 = none :=
  if_pos ⟨Nat.succ_pos _, Nat.succ_le_succ h⟩

end

/-- Settles O46: each setup by the body it carries, each load by the slot's kind. -/
theorem slotSetupAndLoadFillSlots : Obligations.SlotSetupAndLoadFillSlots := by
  intro e n s h ho x named setUp
  have done {ps : List Byte} {f : Bool} {body : SlotBody} (hlength : setupLength ps = none) (hslot : ps.getD 0 0 = slotByte n)
      (hflag : ps.getD 2 0 = flagByte f) (hbody : setupBody s.latch ps = some body) :
      exec (.slotSetup e ps) s = .next (setUp f (kindByte body) body) := by
    rw [exec_slotSetup_done h ho hlength hslot hflag hbody, setupSlot_eq]
    rfl
  refine ⟨fun f => ?unused, fun f => ?capture, fun f age => ?answer, fun f tag interval ports dest hinterval => ?beacon,
    fun b f hbad => ?badSlotOrFlag, fun kind f ps hkind => ?badKind, fun f t1 t0 q i1 i0 hbad => ?badBeacon,
    fun bs => ⟨fun y hbody hlength => ?loadAnswer, fun y hbody hlength => ?loadBeacon,
      fun hanswer hbeacon hlength => ?loadOther, fun hlong hlength => ?loadLong, fun b hslot hlength => ?loadBadSlot⟩⟩
  case unused => exact done (body := .unused) rfl rfl rfl rfl
  case capture => exact done (body := .capture .empty) rfl rfl rfl rfl
  case answer => exact done (body := .answer _) rfl rfl rfl (setupBody_answer (slotByte n) (flagByte f) age)
  case beacon =>
    exact done (body := .beacon _) (setupLength_beacon _ _ tag interval ports dest) rfl rfl
      (setupBody_beacon_of_fields _ _ tag interval ports dest hinterval)
  case badSlotOrFlag => exact exec_slotSetup_bad_value h ho rfl (hbad.imp_right .inl)
  case badKind => exact exec_slotSetup_bad_value h ho (setupLength_of_bad_kind hkind) (.inr (.inr (setupBody_of_bad_kind hkind)))
  case badBeacon => exact exec_slotSetup_bad_value h ho rfl (.inr (.inr (setupBody_of_bad_beacon hbad)))
  case loadAnswer =>
    exact requestRow_changes_slots h ho (slotLoad_step3 (by omega)) rfl (runSlotLoad_of_answer hbody hlength)
  case loadBeacon =>
    exact requestRow_changes_slots h ho (slotLoad_step3 (by omega)) rfl (runSlotLoad_of_beacon hbody hlength)
  case loadOther =>
    exact requestRow_refuses h ho (slotLoad_step3 (by omega)) rfl (runSlotLoad_of_other_kind hanswer hbeacon hlength)
  case loadLong => exact requestRow_refuses h ho (slotLoad_step3 hlength) rfl (runSlotLoad_of_bad_value (.inr hlong))
  case loadBadSlot => exact requestRow_refuses h ho (slotLoad_step3 hlength) rfl (runSlotLoad_of_bad_value (.inl hslot))

/-! ## SLOT-READ with hold (R89 to R92, R185) -/

section
variable {n : Fin 32} {s : State} {c : CapturedRecord} {o : Bool} {q : Option CapturedRecord} {k : Nat}

theorem slotResults_of_body {body : SlotBody} (h : s.slots[n].body = body) : slotResults n s
    = [slotByte n, kindByte body, flagByte s.slots[n].notify, s.slots[n].gen] ++ bytes16 s.slots[n].count
      ++ bodyResults s.holdList.length body := by
  rw [slotResults, h]

theorem runReadHold_of_bad_value {b : Byte} (h : 32 ≤ b.toNat) : runReadHold b s = (s, .plain .badValue []) := by
  simp only [runReadHold, (slotOfByte_eq_none_iff b).mpr h]

theorem runReadHold_of_empty (h : s.slots[n].body = .capture .empty) :
    runReadHold (slotByte n) s = (s, .plain .done (slotResults n s)) := by
  simp only [runReadHold, slotOfByte_slotByte, h]

theorem runReadHold_of_full (h : s.slots[n].body = .capture (.full c o)) (hroom : s.holdList.length < 4) :
    runReadHold (slotByte n) s = (placeHold n c o s, .plain .done (slotResults n (placeHold n c o s))) := by
  simp only [runReadHold, slotOfByte_slotByte, h, if_neg (Nat.not_le.mpr hroom)]

theorem runReadHold_of_holds_full (h : s.slots[n].body = .capture (.full c o)) (hfull : 4 ≤ s.holdList.length) :
    runReadHold (slotByte n) s = (s, .plain .holdsFull (s.holdList.map slotByte)) := by
  simp only [runReadHold, slotOfByte_slotByte, h, if_pos hfull]

theorem runReadHold_of_held (h : s.slots[n].body = .capture (.held c o q k)) :
    runReadHold (slotByte n) s = (restartHold n c o q s, .plain .done (slotResults n (restartHold n c o q s))) := by
  simp only [runReadHold, slotOfByte_slotByte, h]

theorem runReadHold_of_other_kind (h : ∀ c, s.slots[n].body ≠ .capture c) :
    runReadHold (slotByte n) s = (s, .plain .wrongKind [slotByte n, kindByte s.slots[n].body]) := by
  cases hbody : s.slots[n].body with
  | capture c => exact absurd hbody (h c)
  | unused | answer | beacon => simp only [runReadHold, slotOfByte_slotByte, hbody]

theorem slotResults_placeHold (n : Fin 32) (c : CapturedRecord) (o : Bool) (s : State) : slotResults n (placeHold n c o s)
    = [slotByte n, 1, flagByte s.slots[n].notify, s.slots[n].gen] ++ bytes16 s.slots[n].count
      ++ ([2, flagByte o, 0, BitVec.ofNat 8 (s.holdList.length + 1)] ++ recordBytes c) := by
  have slot : (placeHold n c o s).slots[n]
      = { s.slots[n] with body := .capture (.held c o none s.settings.holdTime.toNat) } := Vector.getElem_set_self _
  have holds : (placeHold n c o s).holdList.length = s.holdList.length + 1 := List.length_append
  rw [slotResults, slot, holds]
  rfl

theorem slotResults_restartHold (n : Fin 32) (c : CapturedRecord) (o : Bool) (q : Option CapturedRecord) (s : State) :
    slotResults n (restartHold n c o q s)
      = [slotByte n, 1, flagByte s.slots[n].notify, s.slots[n].gen] ++ bytes16 s.slots[n].count
        ++ ([2, flagByte o, flagByte q.isSome, BitVec.ofNat 8 s.holdList.length] ++ recordBytes c) := by
  have slot : (restartHold n c o q s).slots[n]
      = { s.slots[n] with body := .capture (.held c o q s.settings.holdTime.toNat) } := Vector.getElem_set_self _
  rw [slotResults, slot]
  rfl

end

/-- Settles O47: the read with hold by the slot's kind and state and the room of the hold list. -/
theorem holdReadPlacesOrRestartsHold : Obligations.HoldReadPlacesOrRestartsHold := by
  intro e n s h ho x ticks run head
  refine ⟨fun c o hbody hroom => ?placed, fun c o hbody hfull => ?holdsFull, fun c o q k hbody => ?restarted,
    fun hbody => ?empty, fun hkind => ?wrongKind, fun b hslot => ?badSlot⟩
  case placed =>
    have placed := runReadHold_of_full hbody hroom
    rw [slotResults_placeHold] at placed
    exact requestRow_changes_slots (f := slotReadHoldHandler (slotByte n)) h ho rfl rfl placed
  case holdsFull =>
    exact requestRow_refuses (f := slotReadHoldHandler (slotByte n)) h ho rfl rfl (runReadHold_of_holds_full hbody hfull)
  case restarted =>
    have restarted := runReadHold_of_held hbody
    rw [slotResults_restartHold] at restarted
    exact requestRow_changes_slots (f := slotReadHoldHandler (slotByte n)) h ho rfl rfl restarted
  case empty =>
    have empty := runReadHold_of_empty hbody
    rw [slotResults_of_body hbody] at empty
    exact requestRow_refuses (f := slotReadHoldHandler (slotByte n)) h ho rfl rfl empty
  case wrongKind =>
    exact requestRow_refuses (f := slotReadHoldHandler (slotByte n)) h ho rfl rfl (runReadHold_of_other_kind hkind)
  case badSlot => exact requestRow_refuses (f := slotReadHoldHandler b) h ho rfl rfl (runReadHold_of_bad_value hslot)

/-! ## SLOT-RELEASE (R93, R163) -/

section
variable {n : Fin 32} {s : State}

theorem runSlotRelease_of_bad_value {b : Byte} (h : 32 ≤ b.toNat) : runSlotRelease b s = (s, .plain .badValue []) := by
  simp only [runSlotRelease, (slotOfByte_eq_none_iff b).mpr h]

theorem runSlotRelease_of_other_kind (h : ∀ c, s.slots[n].body ≠ .capture c) :
    runSlotRelease (slotByte n) s = (s, .plain .wrongKind [slotByte n, kindByte s.slots[n].body]) := by
  cases hbody : s.slots[n].body with
  | capture c => exact absurd hbody (h c)
  | unused | answer | beacon => simp only [runSlotRelease, slotOfByte_slotByte, hbody]

theorem runSlotRelease_of_empty (h : s.slots[n].body = .capture .empty) :
    runSlotRelease (slotByte n) s = (s, .plain .notHeld [slotByte n, 0]) := by
  simp only [runSlotRelease, slotOfByte_slotByte, h, captureByte]

theorem runSlotRelease_of_full {c : CapturedRecord} {o : Bool} (h : s.slots[n].body = .capture (.full c o)) :
    runSlotRelease (slotByte n) s = (s, .plain .notHeld [slotByte n, 1]) := by
  simp only [runSlotRelease, slotOfByte_slotByte, h, captureByte]

theorem runSlotRelease_of_held {c : CapturedRecord} {o : Bool} {q : Option CapturedRecord} {k : Nat}
    (h : s.slots[n].body = .capture (.held c o q k)) : runSlotRelease (slotByte n) s
      = (releaseSlot n q s, .plain .done ([slotByte n, captureByte (releasedBody q)] ++ bytes16 s.slots[n].count)) := by
  simp only [runSlotRelease, slotOfByte_slotByte, h]

end

/-- Settles O48: the two refusals of a sender that is not the owner, then the release by the slot's kind and state. -/
theorem releaseConsumesHeldRecord : Obligations.ReleaseConsumesHeldRecord := by
  intro e n s h x run released
  refine ⟨fun hunowned b => ?noOwner, fun o ho hother b => ?owned, fun ho => ⟨fun b hslot => ?badSlot, fun hkind => ?wrongKind,
    fun hbody => ?empty, fun c o hbody => ?full, fun c o k hbody => ?released, fun c o r k hbody => ?releasedPending⟩⟩
  case noOwner =>
    exact requestRow_of_ownershipRefusal (f := slotReleaseHandler [b]) h rfl rfl (ownershipRefusal_of_unowned hunowned)
  case owned =>
    exact requestRow_of_ownershipRefusal (f := slotReleaseHandler [b]) h rfl rfl (ownershipRefusal_of_other ho hother)
  case badSlot => exact requestRow_refuses (f := slotReleaseHandler [b]) h ho rfl rfl (runSlotRelease_of_bad_value hslot)
  case wrongKind =>
    exact requestRow_refuses (f := slotReleaseHandler [slotByte n]) h ho rfl rfl (runSlotRelease_of_other_kind hkind)
  case empty => exact requestRow_refuses (f := slotReleaseHandler [slotByte n]) h ho rfl rfl (runSlotRelease_of_empty hbody)
  case full => exact requestRow_refuses (f := slotReleaseHandler [slotByte n]) h ho rfl rfl (runSlotRelease_of_full hbody)
  case released =>
    exact requestRow_changes_slots (f := slotReleaseHandler [slotByte n]) h ho rfl rfl (runSlotRelease_of_held hbody)
  case releasedPending =>
    exact requestRow_changes_slots (f := slotReleaseHandler [slotByte n]) h ho rfl rfl (runSlotRelease_of_held hbody)

end Sys2Proof.Machine
end

section
/-! SUPPORT and proofs of the poll proxy (chapter 6): the move-outs that build a frame from a slot, the test at a poll's header and the
settlement of its reservation at the poll's end. -/

namespace Sys2Proof.Machine

/-! ## The move-out of a slot's entry (R111, R125, R132) -/

section
variable {p : Port} {n : Fin 32} {s : State}

/-- R15: a built frame is its header and payload with their check. -/
theorem buildFrame_eq_withCheck (kind dest src seq : Byte) (tag : Half) (aux : Byte) (payload : List Byte) :
    buildFrame kind dest src seq tag aux payload
      = withCheck ([kind <<< 4, dest, src, seq] ++ bytes16 tag ++ [BitVec.ofNat 8 payload.length, aux] ++ payload) := rfl

/-- R111: an ANSWER entry's frame is made of the poll's fields and the slot's payload and age; the slot stands. -/
theorem startEntry_of_answer {y : AnswerSlot} (hbody : s.slots[n].body = .answer y) (g src dst seq : Byte) (ready : Bool)
    (tag : Half) :
    startEntry p (.answer n g ready src dst seq tag) s
      = startInjection p (buildFrame 3 src dst seq tag (auxOfAge y.age) (answerBytes y.content)) false s := by
  simp only [startEntry, answerAge, answerPayload, hbody]

/-- R132: a BEACON entry's frame is made of the slot, whose beacon seq advances. -/
theorem startEntry_of_beacon {y : BeaconSlot} (hbody : s.slots[n].body = .beacon y) :
    startEntry p (.beacon n) s = startInjection p (buildFrame 1 y.dest s.ownAddr y.seq y.tag 0 y.payload) false
      (s.setSlot n { s.slots[n] with body := .beacon { y with seq := y.seq + 1 } }) := by
  simp only [startEntry, moveBeacon, hbody]

end

/-- Settles O31: the selected entry is moved out, and its frame is the one its slot's kind gives. -/
theorem slotMoveOutsBuildFrames : Obligations.SlotMoveOutsBuildFrames := by
  refine ⟨fun p s n g src dst seq tag time rest y h hbody => ?answer, fun p s n time rest y h hbody => ?beacon⟩
  case answer =>
    refine (exec_moveOutRow_of_selects h).trans (congrArg _ ?_)
    rw [moveOut, startEntry_of_answer (by exact hbody), buildFrame_eq_withCheck]
    rfl
  case beacon =>
    refine (exec_moveOutRow_of_selects h).trans (congrArg _ ?_)
    rw [moveOut, startEntry_of_beacon (by exact hbody), buildFrame_eq_withCheck]
    rfl

/-! ## The test of a poll (R102, R106 to R109) -/

section
variable {p : Port} {h : Header} {n : Fin 32} {x : AnswerSlot} {s : State}

/-- R102: a payload is fresh where it is there and not over its greatest age. -/
theorem AnswerSlot.fresh_iff : x.fresh = true ↔ x.content ≠ .none ∧ (x.maxAge = 0 ∨ x.age < x.maxAge) := by
  unfold AnswerSlot.fresh
  cases x.content <;> simp

theorem AnswerSlot.stale_of_le (hlimit : x.maxAge ≠ 0) (hage : x.maxAge ≤ x.age) : x.fresh = false := by
  rw [← Bool.not_eq_true, AnswerSlot.fresh_iff]
  rintro ⟨-, hzero | hlt⟩
  · exact hlimit hzero
  · exact BitVec.not_lt.mpr hage hlt

/-- R106 steps 1 and 2: a poll that lets the part answer, and has a station for its dest. -/
def AsksOneStation (h : Header) : Prop := noproxy h = false ∧ ¬(h.dest = 0 ∨ h.dest = 255)

theorem pollTest_of_noproxy (hno : noproxy h = true) :
    pollTest p h n x s = (s.bumpProxy (fun c => { c with missNoproxy := satInc c.missNoproxy }), .forward) := by
  simp only [pollTest, hno, if_true]

theorem pollTest_of_no_station (hno : noproxy h = false) (hdest : h.dest = 0 ∨ h.dest = 255) :
    pollTest p h n x s = (s.bumpProxy (fun c => { c with missNoStation := satInc c.missNoStation }), .forward) := by
  simp only [pollTest, hno, if_pos hdest, Bool.false_eq_true, if_false]

/-- R106 steps 5 and 6: what becomes of a poll whose slot has a fresh payload, by the arrival port's queue. -/
def queueTest (p : Port) (h : Header) (n : Fin 32) (s : State) : State × Verdict :=
  match entryOfSlot n (s.queues.get p).entries with
  | some e =>
    if samePoll h e.body then (s.bumpProxy (fun c => { c with coalesced := satInc c.coalesced }), .answered false)
    else (s.bumpProxy (fun c => { c with missBusy := satInc c.missBusy }), .forward)
  | none =>
    if (s.queues.get p).room then (reserve p h n s, .answered true)
    else (s.bumpProxy (fun c => { c with missQueueFull := satInc c.missQueueFull }), .forward)

section
variable (hh : AsksOneStation h)
include hh

theorem pollTest_of_empty (hcontent : x.content = .none) :
    pollTest p h n x s = (s.bumpProxy (fun c => { c with missEmpty := satInc c.missEmpty }), .forward) := by
  obtain ⟨hno, hdest⟩ := hh
  simp only [pollTest, hno, Bool.false_eq_true, if_false, if_neg hdest, if_pos hcontent]

theorem pollTest_of_stale (hcontent : x.content ≠ .none) (hstale : x.fresh = false) :
    pollTest p h n x s = (s.bumpProxy (fun c => { c with missStale := satInc c.missStale }), .forward) := by
  obtain ⟨hno, hdest⟩ := hh
  simp only [pollTest, hno, Bool.false_eq_true, if_false, if_neg hdest, if_neg hcontent, hstale, if_true]

theorem pollTest_of_fresh (hfresh : x.fresh = true) : pollTest p h n x s = queueTest p h n s := by
  obtain ⟨hno, hdest⟩ := hh
  obtain ⟨hcontent, -⟩ := AnswerSlot.fresh_iff.mp hfresh
  rw [pollTest, if_neg (by rw [hno]; decide), if_neg hdest, if_neg hcontent, if_neg (by rw [hfresh]; decide)]
  rfl

end

/-- R108: a repeat of the poll whose entry is queued. -/
theorem queueTest_of_repeat {q : QEntry} (hqueued : entryOfSlot n (s.queues.get p).entries = some q)
    (hsame : samePoll h q.body = true) :
    queueTest p h n s = (s.bumpProxy (fun c => { c with coalesced := satInc c.coalesced }), .answered false) := by
  simp only [queueTest, hqueued, hsame, if_true]

theorem queueTest_of_busy {q : QEntry} (hqueued : entryOfSlot n (s.queues.get p).entries = some q)
    (hother : samePoll h q.body = false) :
    queueTest p h n s = (s.bumpProxy (fun c => { c with missBusy := satInc c.missBusy }), .forward) := by
  simp only [queueTest, hqueued, hother, Bool.false_eq_true, if_false]

theorem queueTest_of_full (hqueued : entryOfSlot n (s.queues.get p).entries = none) (hfull : 16 ≤ (s.queues.get p).occupancy) :
    queueTest p h n s = (s.bumpProxy (fun c => { c with missQueueFull := satInc c.missQueueFull }), .forward) := by
  simp [queueTest, hqueued, Queue.room, Nat.not_lt.mpr hfull]

/-- R107: the poll places its reservation. -/
theorem queueTest_of_room (hqueued : entryOfSlot n (s.queues.get p).entries = none) (hroom : (s.queues.get p).occupancy < 16) :
    queueTest p h n s = (reserve p h n s, .answered true) := by
  simp [queueTest, hqueued, Queue.room, hroom]

/-- R107: a reservation joins the queue of the arrival port and is counted answered. -/
theorem reserve_of_room (hroom : (s.queues.get p).occupancy < 16) : reserve p h n s = { s with
    queues := (enqueued p (.answer n s.slots[n].gen false h.src h.dest h.seq h.tag) s).queues
    proxyStats := { s.proxyStats with answered := satInc s.proxyStats.answered } } := by
  rw [reserve, place_of_room hroom]
  rfl

theorem restartDue_reserve (p : Port) (h : Header) (n : Fin 32) (s : State) : restartDue (reserve p h n s) = restartDue s :=
  restartDue_place (s := s) rfl

theorem reserve_paths (p : Port) (h : Header) (n : Fin 32) (s : State) : (reserve p h n s).paths = s.paths := by
  rw [reserve, place_frame]
  rfl

end

/-! ## The header of a poll (R36, R39, R109) -/

section
variable {p : Port} {b : Byte} {h : Header} {i : Fin 64} {e : Entry} {n : Fin 32} {x : AnswerSlot} {s t : State}

section
variable (ha : e.action = .answer) (hs : e.slot = some n) (hx : s.slots[n].body = .answer x)
include ha hs hx

/-- R109: a miss is forwarded. -/
theorem entryDecision_of_miss (ht : pollTest p h n x s = (t, .forward)) :
    entryDecision p h i e s = (t, plainDecision .forward (.entry i)) := by
  simp only [entryDecision, ha, hs, hx, ht]

/-- R39, R40: an answered poll is taken off the line, and its decision names the slot. -/
theorem entryDecision_of_answered {r : Bool} (ht : pollTest p h n x s = (t, .answered r)) :
    entryDecision p h i e s
      = (t, { plainDecision (.answered r) (.entry i) with slot := some (n, s.slots[n].gen) }) := by
  simp only [entryDecision, ha, hs, hx, ht]

end

/-- R36, R40: a header decided in the line, where finding its outcome has left the paths and a waiting restart as they were. -/
theorem exec_header_decided_of_due (hc : CompletesHeader p b h s) (hrelays : s.relay.relays = true) {d : Decision}
    (hd : decideHeader p h (headerTaken p b s) = (t, d)) (hpaths : t.paths = s.paths) (hdue : restartDue t = restartDue s) :
    exec (.receiveDataByte p b) s
      = .next (t.setPath (dirIn p) (heldHeader h (s.rx.get p).sofTime d (s.paths.get (dirIn p)))) := by
  have tx := PerDir.map_get_set (fun w => w.tx.isNamed) t.paths (d := dirIn p)
    (a := heldHeader h (s.rx.get p).sofTime d (t.paths.get (dirIn p))) (congrArg Tx.isNamed (heldHeader_tx ..))
  obtain ⟨-, waits, -⟩ := id hc
  have due : restartDue (t.setPath (dirIn p) (heldHeader h (s.rx.get p).sofTime d (t.paths.get (dirIn p)))) = false :=
    (restartDue_setPaths tx).trans (hdue.trans waits)
  rw [exec_completesHeader hc, headerReport, if_pos (by exact hrelays), hd, holdHeader_eq, settleRestart_of_not_due due, hpaths]

end

/-- Settles O26: each row of R106's table is one outcome of the test, on the state in which the deciding entry has counted its hit. -/
theorem pollIsTestedInOrder : Obligations.PollIsTestedInOrder := by
  intro p b h s i n y hc hrelay hkind hsearch ha hs hbody e d0 taken result c queued run
  have decided {u : State} {d : Decision} (hd : entryDecision p h i e (headerHit p b i s) = (u, d)) :=
    exec_header_decided_of_due hc (relays_iff.mpr (.inl hrelay))
      ((decideHeader_of_match (.inr (.inl hkind)) hrelay hsearch).trans hd)
  have missed {k : ProxyCounters → ProxyCounters}
      (ht : pollTest p h n y (headerHit p b i s) = ((headerHit p b i s).bumpProxy k, .forward)) :
      run = .next (result d0 (k c) s.queues) :=
    decided (entryDecision_of_miss ha hs (by exact hbody) ht) rfl rfl
  refine ⟨fun hno => missed (pollTest_of_noproxy hno), fun hno hdest => missed (pollTest_of_no_station hno hdest),
    fun hno hzero hall => ?_⟩
  have asks : AsksOneStation h := ⟨hno, not_or.mpr ⟨hzero, hall⟩⟩
  refine ⟨fun hcontent => missed (pollTest_of_empty asks hcontent),
    fun hcontent hlimit hage => missed (pollTest_of_stale asks hcontent (AnswerSlot.stale_of_le hlimit hage)),
    fun hcontent hage => ?_⟩
  have tested : pollTest p h n y (headerHit p b i s) = queueTest p h n (headerHit p b i s) :=
    pollTest_of_fresh asks (AnswerSlot.fresh_iff.mpr ⟨hcontent, hage⟩)
  refine ⟨fun g r dst tag time hqueued => ?coalesced, fun g r src dst seq tag time hqueued hother => ?busy,
    fun hqueued hfull => missed (tested.trans (queueTest_of_full hqueued hfull)), fun hqueued hroom => ?reserved⟩
  case coalesced =>
    have repeated := tested.trans (queueTest_of_repeat hqueued (by simp [samePoll]))
    exact decided (entryDecision_of_answered ha hs (by exact hbody) repeated) rfl rfl
  case busy =>
    refine missed (tested.trans (queueTest_of_busy hqueued ?_))
    simpa [samePoll, or_iff_not_imp_left] using hother
  case reserved =>
    have room := tested.trans (queueTest_of_room hqueued hroom)
    refine (decided (entryDecision_of_answered ha hs (by exact hbody) room) (reserve_paths ..) (restartDue_reserve ..)).trans ?_
    rw [reserve_of_room (by exact hroom)]
    rfl

/-! ## The settlement of a reservation (R110, R124) -/

section
variable {α : Type} {t : α → Bool} {pre post : List α} {e : α} (he : t e = true) (hothers : ∀ y ∈ pre ++ post, t y = false)
include he hothers

theorem filter_not_of_sole : (pre ++ e :: post).filter (fun y => !t y) = pre ++ post := by
  have kept : (pre ++ post).filter (fun y => !t y) = pre ++ post := List.filter_eq_self.mpr fun y hy => by simp [hothers y hy]
  rw [← kept]
  simp [he]

theorem filter_of_sole : (pre ++ e :: post).filter t = [e] := by
  have gone : (pre ++ post).filter t = [] := List.filter_eq_nil_iff.mpr fun y hy => by simp [hothers y hy]
  rw [List.filter_append, List.append_eq_nil_iff] at gone
  simp [he, gone]

theorem map_ite_of_sole (f : α → α) : (pre ++ e :: post).map (fun y => if t y then f y else y) = pre ++ f e :: post := by
  have kept (l : List α) (hl : ∀ y ∈ l, t y = false) : l.map (fun y => if t y then f y else y) = l :=
    (List.map_congr_left fun y hy => if_neg (by simp [hl y hy])).trans (List.map_id l)
  simp [he, kept pre fun y hy => hothers y (List.mem_append_left _ hy),
    kept post fun y hy => hothers y (List.mem_append_right _ hy)]

end

section
variable {p : Port} {cls : EndClass} {n : Fin 32} {g : Byte} {s : State}

theorem isReservation_iff {b : EntryBody} :
    isReservation n g b = true ↔ ∃ src dst seq tag, b = .answer n g false src dst seq tag := by
  cases b <;> simp [isReservation, and_assoc]

theorem isReservation_of_ready {b : EntryBody} (h : b.isReady = true) : isReservation n g b = false := by
  rw [← Bool.not_eq_true, isReservation_iff]
  rintro ⟨_, _, _, _, rfl⟩
  cases h

theorem isNamed_of_isReservation {b : EntryBody} (h : isReservation n g b = true) : b.isNamed = false := by
  obtain ⟨_, _, _, _, rfl⟩ := isReservation_iff.mp h
  rfl

theorem isNamed_makeReady (b : EntryBody) : (makeReady b).isNamed = b.isNamed := by cases b <;> rfl

/-- R169: an MREPLY entry is no reservation, so that the reply a restart waits for stands. -/
theorem restartDue_pollEnd (p : Port) (cls : EndClass) (n : Fin 32) (g : Byte) (s : State) :
    restartDue (pollEnd p cls n g s) = restartDue s := by
  unfold pollEnd
  split
  · split
    · refine restartDue_setQueue ?_
      rw [List.any_map]
      refine congrArg (fun f => List.any _ f) (funext fun e => ?_)
      simp only [Function.comp_apply]
      split
      · exact isNamed_makeReady _
      · rfl
    · exact restartDue_setQueue (q := { s.queues.get p with
        entries := (s.queues.get p).entries.filter fun e => !isReservation n g e.body })
        (any_isNamed_filter fun e _ he => isNamed_of_isReservation he)
  · rfl

/-- R110: the entry is already gone. -/
theorem pollEnd_of_absent (h : ∀ e ∈ (s.queues.get p).entries, isReservation n g e.body = false) : pollEnd p cls n g s = s :=
  if_neg (by simpa using h)

section
variable {pre post : List QEntry} {e : QEntry} (hentries : (s.queues.get p).entries = pre ++ e :: post)
  (he : isReservation n g e.body = true) (hothers : ∀ y ∈ pre ++ post, y.body.isReady = true)
include hentries he

theorem any_isReservation : (s.queues.get p).entries.any (fun y => isReservation n g y.body) = true := by
  rw [hentries]
  simp [he]

include hothers

/-- R110, R121: at a GOOD end the reservation becomes READY where it stands. -/
theorem pollEnd_of_good : pollEnd p .good n g s
    = s.setQueue p { s.queues.get p with entries := pre ++ { e with body := makeReady e.body } :: post } := by
  rw [pollEnd, if_pos (any_isReservation hentries he), if_pos rfl, hentries]
  rw [map_ite_of_sole (t := fun y : QEntry => isReservation n g y.body) he fun y hy => isReservation_of_ready (hothers y hy)]

/-- R110, R124: at any other end the reservation is withdrawn. -/
theorem pollEnd_of_lost (hcls : cls ≠ .good) : pollEnd p cls n g s = { s with
    queues := s.queues.set p { s.queues.get p with entries := pre ++ post }
    dirStats := s.dirStats.set (dirOut p)
      { s.dirStats.get (dirOut p) with withdrawn := satInc (s.dirStats.get (dirOut p)).withdrawn }
    proxyStats := { s.proxyStats with answerLostBadPoll := satInc s.proxyStats.answerLostBadPoll } } := by
  have other (y : QEntry) (hy : y ∈ pre ++ post) : isReservation n g y.body = false := isReservation_of_ready (hothers y hy)
  rw [pollEnd, if_pos (any_isReservation hentries he), if_neg hcls, withdrawFrom, hentries,
    filter_not_of_sole (t := fun y : QEntry => isReservation n g y.body) he other,
    filter_of_sole (t := fun y : QEntry => isReservation n g y.body) he other]
  rfl

end

/-! ## The end of an answered poll (R45, R110) -/

section
variable {x : LineEvent} {f : InFlight}

theorem endVerdict_of_reserved (hverdict : f.decision.verdict = .answered true) (hslot : f.decision.slot = some (n, g)) :
    endVerdict p cls f s = pollEnd p cls n g s := by
  simp only [endVerdict, hverdict, hslot]

section
variable {r : Bool} (hverdict : f.decision.verdict = .answered r)
include hverdict

/-- R45: the end of an answered poll settles a reservation, or does nothing. -/
theorem endVerdict_of_answered_cases (p : Port) (cls : EndClass) :
    (∀ u, endVerdict p cls f u = u) ∨ ∃ n g, ∀ u, endVerdict p cls f u = pollEnd p cls n g u := by
  cases r with
  | false => exact .inl fun u => endVerdict_of_no_effect (.inr (.inl hverdict))
  | true =>
    cases hslot : f.decision.slot with
    | none => exact .inl fun u => by simp only [endVerdict, hverdict, hslot]
    | some ng => exact .inr ⟨ng.1, ng.2, fun u => endVerdict_of_reserved hverdict hslot⟩

/-- R45: what an answered poll's end does is nothing to the receivers or the ports' counters, nor made of them. -/
theorem endVerdict_of_answered (p : Port) (cls : EndClass) (s : State) (rx : PerPort Receiver) (c : PerPort PortCounters) :
    endVerdict p cls f { s with rx := rx, portStats := c } = { s with
      rx := rx, portStats := c, queues := (endVerdict p cls f s).queues, dirStats := (endVerdict p cls f s).dirStats
      proxyStats := (endVerdict p cls f s).proxyStats } := by
  obtain h | ⟨n, g, h⟩ := endVerdict_of_answered_cases hverdict p cls
  · rw [h, h]
  · rw [h, h]
    unfold pollEnd
    dsimp only
    split
    · split <;> rfl
    · rfl

theorem restartDue_endVerdict (p : Port) (cls : EndClass) (s : State) : restartDue (endVerdict p cls f s) = restartDue s := by
  obtain h | ⟨n, g, h⟩ := endVerdict_of_answered_cases hverdict p cls
  · rw [h]
  · rw [h, restartDue_pollEnd]

/-- R13, R45: an answered poll has ended, the bucket's additions still to come. -/
theorem endedFrame_of_answered (hflight : (s.paths.get (dirIn p)).flight = some f) :
    endedFrame p cls x (countCodeError p x s) = { s with
      rx := s.rx.set p (rxAfterEnd s.timestamp x (s.rx.get p))
      portStats := s.portStats.set p (countedEnd cls (withError x (s.portStats.get p)))
      inbox := s.inbox.set p none
      paths := s.paths.set (dirIn p) { s.paths.get (dirIn p) with flight := none }
      queues := (endVerdict p cls f s).queues, dirStats := (endVerdict p cls f s).dirStats
      proxyStats := (endVerdict p cls f s).proxyStats } := by
  rw [countCodeError_eq, endedFrame, closeFlight_of_some (by exact hflight)]
  simp only [State.setRx, State.bumpPort, PerPort.get_set_self, PerPort.set_set]
  rw [endVerdict_of_answered hverdict]
  rfl

end

/-- R20: a GOOD end adds nothing to the bucket: it is an EOF's. -/
theorem additions_of_good {k : Nat} {r : Receiver} (h : bodyEnd p k r (delivery p x) = some .good) : additions .good x = 0 := by
  have : x ≠ .codeError := by
    rintro rfl
    simp [delivery, bodyEnd] at h
  simp [additions, errorCount, this]

theorem bucketAdd_below {k : Nat} (hsynced : (s.ports.get p).state = .synced)
    (h : k ≠ 0 → (s.ports.get p).bucket + k < (s.settings.bucketLimit.get p).toNat) :
    bucketAdd p k s = s.setPort p { s.ports.get p with bucket := (s.ports.get p).bucket + k } := by
  cases k with
  | zero => exact bucketAdd_zero.trans (State.setPort_self s p).symm
  | succ k => exact bucketAdd_of_lt hsynced (h k.succ_ne_zero)

/-- R13: out of BYPASS a frame's end makes no join; a GOOD one stays below any limit. -/
theorem frameEnd_in_line (hinbox : s.inbox.get p = none) (hsynced : (s.ports.get p).state = .synced) (hrelay : s.relay ≠ .bypass)
    (h : additions cls x ≠ 0 → (s.ports.get p).bucket + additions cls x < (s.settings.bucketLimit.get p).toNat) :
    frameEnd p cls x s = endedBelow p cls x s := by
  have below : bucketAdd p (additions cls x) (endedFrame p cls x s) = endedBelow p cls x s := by
    unfold endedBelow
    rw [endedFrame_frame]
    exact bucketAdd_below hsynced h
  rw [frameEnd_eq fun _ => hinbox, below, joinCheck_of_relay]
  exact (endedFrame_relay p cls x s).symm ▸ hrelay

section
variable {r : Bool} (hreset : s.resetPin = false) (hsynced : (s.ports.get p).state = .synced)
  (hend : delimit p x (countCodeError p x s) = frameEnd p cls x (countCodeError p x s))
  (hrelay : s.relay ≠ .bypass) (hflight : (s.paths.get (dirIn p)).flight = some f)
  (hverdict : f.decision.verdict = .answered r)
include hreset hsynced hend hrelay hflight hverdict

/-- R13, R45: the end of an answered poll in the line, whose additions stay below the limit. -/
theorem exec_delivery_ends_poll (hinbox : s.inbox.get p = none) (hdue : restartDue s = false)
    (hbelow : additions cls x ≠ 0 → (s.ports.get p).bucket + additions cls x < (s.settings.bucketLimit.get p).toNat) :
    exec (delivery p x) s = .next { s with
      rx := s.rx.set p (rxAfterEnd s.timestamp x (s.rx.get p))
      ports := s.ports.set p { s.ports.get p with bucket := (s.ports.get p).bucket + additions cls x }
      portStats := s.portStats.set p (countedEnd cls (withError x (s.portStats.get p)))
      paths := s.paths.set (dirIn p) { s.paths.get (dirIn p) with flight := none }
      queues := (endVerdict p cls f s).queues, dirStats := (endVerdict p cls f s).dirStats
      proxyStats := (endVerdict p cls f s).proxyStats } := by
  have ended := endedFrame_of_answered (x := x) (cls := cls) hverdict hflight
  rw [PerPort.set_of_get_eq hinbox] at ended
  have due : restartDue (endedBelow p cls x (countCodeError p x s)) = false := by
    refine (restartDue_eq (s := endVerdict p cls f s) ?_ ?_ fun d => ?_).trans ((restartDue_endVerdict hverdict p cls s).trans hdue)
    all_goals rw [endedBelow, ended]
    · rw [endVerdict_frame]
      rfl
    · rfl
    · rw [endVerdict_tx]
      refine PerDir.map_get_set (fun w : RelayPath => w.tx.isNamed) s.paths ?_ d
      rfl
  have frame := countCodeError_eq p x s
  rw [exec_delivery_of_synced hreset hsynced, hend, frameEnd_in_line (by rw [frame]; exact hinbox) (by rw [frame]; exact hsynced)
    (by rw [frame]; exact hrelay) (by rw [frame]; exact hbelow), settleRestart_of_not_due due, endedBelow, ended, frame]
  rfl

/-- R28: where the additions fill the bucket, the poll is settled and the part enters BYPASS: the rest of the queue is withdrawn. -/
theorem exec_delivery_fills_poll (hpending : s.restartPending = false) (hcls : cls ≠ .good)
    (hfull : (s.settings.bucketLimit.get p).toNat ≤ (s.ports.get p).bucket + additions cls x) :
    ∃ t, exec (delivery p x) s = .next t ∧ t.relay = .bypass ∧ t.ports = s.ports.set p faultedPort
      ∧ (∀ q, t.queues.get q = { entries := [], held := false }) ∧ t.proxyStats = (endVerdict p cls f s).proxyStats
      ∧ (t.dirStats.get (dirOut p)).withdrawn
        = satAdd (s.dirStats.get (dirOut p)).withdrawn (s.queues.get p).entries.length := by
  have hrelay' : (countCodeError p x s).relay ≠ .bypass := by rw [countCodeError_eq]; exact hrelay
  obtain ⟨hports, hbypass, -⟩ := endedFull_countCodeError (p := p) (x := x) (s := s) hcls
  refine ⟨_, exec_delivery_ends_full hreset hpending hsynced hend hcls hfull, hbypass, hports, endedFull_queues hrelay', ?_, ?_⟩
  all_goals rw [endedFull_of_ne_bypass hrelay', endedFrame_of_answered hverdict hflight]
  · simp only [noted]
    rw [enterBypass_frame]
    rfl
  · refine (enterBypass_withdrawn _ p).trans ?_
    exact endVerdict_withdrawn cls hcls f p

end

end
end

/-- Settles O27: the verdict says how the poll is settled, before the bucket takes its additions; the rest is any frame's end. -/
theorem pollEndSettlesReservation : Obligations.PollEndSettlesReservation := by
  intro p c s cls f n g hreset hsynced hbody hgap hinbox hrelay _ hends hflight hslot limit adds counters closed
  obtain ⟨x, rfl⟩ := exists_delivery_of_receivesOn (receivesOn_of_bodyEnd hends)
  have hend := delimit_countCodeError_of_bodyEnd hbody hends
  have hclass : endClass (s.rx.get p) cls = cls := if_neg (by rw [hgap]; decide)
  rw [hclass] at hend
  have hadds : adds = additions cls x := by simp only [adds, ite_codeError_eq_errorCount, additions]
  have hclosed (q : Queue) : closed q = { s with
      rx := s.rx.set p (rxAfterEnd s.timestamp x (s.rx.get p))
      ports := s.ports.set p { s.ports.get p with bucket := (s.ports.get p).bucket + additions cls x }
      portStats := s.portStats.set p (countedEnd cls (withError x (s.portStats.get p)))
      paths := s.paths.set (dirIn p) { s.paths.get (dirIn p) with flight := none }
      queues := s.queues.set p q } := by
    simp only [closed, hadds, counters, ite_codeError_eq_withError, rxAfterEnd_eq, delivery_eq_receiveSof_iff]
  have below (h : cls ≠ .good → (s.ports.get p).bucket + additions cls x < limit) (hne : additions cls x ≠ 0) :
      (s.ports.get p).bucket + additions cls x < limit := by
    refine h ?_
    rintro rfl
    exact hne (additions_of_good hends)
  rw [hadds]
  refine ⟨?reserved, fun hverdict => ?unchanged⟩
  case reserved =>
    intro src dst seq tag time pre post entry others hverdict hentries hready
    have hreservation : isReservation n g (entry false).body = true := isReservation_iff.mpr ⟨src, dst, seq, tag, rfl⟩
    have settled := endVerdict_of_reserved (p := p) (cls := cls) (s := s) hverdict hslot
    have ends := exec_delivery_ends_poll hreset hsynced hend hrelay hflight hverdict hinbox
    refine ⟨fun hdue hgood => ?ready, fun hdue hcls hlt => ?lost, fun hpending hcls hle => ?full⟩
    case ready =>
      subst hgood
      rw [pollEnd_of_good hentries hreservation hready] at settled
      rw [ends hdue (below fun h => absurd rfl h), settled, hclosed]
      rfl
    case lost =>
      rw [pollEnd_of_lost hentries hreservation hready hcls] at settled
      rw [ends hdue (below fun _ => hlt), settled, hclosed]
    case full =>
      have fills := exec_delivery_fills_poll hreset hsynced hend hrelay hflight hverdict hpending hcls hle
      rw [settled, pollEnd_of_lost hentries hreservation hready hcls] at fills
      exact fills
  case unchanged =>
    have settled : endVerdict p cls f s = s := by
      rcases hverdict with h | ⟨h, habsent⟩
      · exact endVerdict_of_no_effect (.inr (.inl h))
      · rw [endVerdict_of_reserved h hslot]
        refine pollEnd_of_absent fun e he => ?_
        rw [← Bool.not_eq_true, isReservation_iff]
        rintro ⟨src, dst, seq, tag, hb⟩
        exact habsent e he src dst seq tag hb
    obtain ⟨r, hanswered⟩ : ∃ r, f.decision.verdict = .answered r := hverdict.elim (fun h => ⟨_, h⟩) fun h => ⟨_, h.1⟩
    refine ⟨fun hdue hlt => ?below, fun hpending hcls hle => ?full⟩
    case below =>
      rw [exec_delivery_ends_poll hreset hsynced hend hrelay hflight hanswered hinbox hdue (below hlt), settled, hclosed,
        PerPort.set_get_self]
    case full =>
      have fills := exec_delivery_fills_poll hreset hsynced hend hrelay hflight hanswered hpending hcls hle
      rw [settled] at fills
      exact fills

end Sys2Proof.Machine
end

section
/-! SUPPORT and proofs of the injection queues' own rows: which entry a queue selects (R122), the frames of a reply, a regenerated ASSIGN
and a NOTICE (R125, R149, R174), the age-out of one queue (R123) and the expiry of a beacon timer (R130, R131). -/

namespace Sys2Proof.Machine

/-! ## Selection (R122) -/

section
variable {es : List QEntry}

/-- R122: an entry is READY and of a class. -/
def readyAt (k : Nat) (e : QEntry) : Bool := e.body.isReady && e.body.cls == k

theorem readyAt_iff {k : Nat} {e : QEntry} : readyAt k e = true ↔ e.body.isReady = true ∧ e.body.cls = k := by simp [readyAt]

theorem readyAt_eq_false_iff {k : Nat} {e : QEntry} : readyAt k e = false ↔ (e.body.isReady = true → e.body.cls ≠ k) := by
  simp [readyAt]

theorem EntryBody.cls_le_two (b : EntryBody) : b.cls ≤ 2 := by cases b <;> simp [EntryBody.cls]

/-- The first item that passes is taken, wherever it stands. -/
theorem takeFirst_append_cons {α : Type} {t : α → Bool} {x : α} (hx : t x = true) {pre : List α} (hpre : ∀ y ∈ pre, t y = false)
    (post : List α) : takeFirst t (pre ++ x :: post) = some (x, pre ++ post) := by
  induction pre with
  | nil => simp [takeFirst, hx]
  | cons y pre ih =>
    simp [takeFirst, hpre y List.mem_cons_self, ih fun z hz => hpre z (List.mem_cons_of_mem y hz)]

/-- R122: the three classes are tried in turn. -/
theorem selectEntry_eq_or (es : List QEntry) : selectEntry es
    = (takeFirst (readyAt 0) es).or ((takeFirst (readyAt 1) es).or (takeFirst (readyAt 2) es)) := by
  unfold selectEntry
  split
  · rename_i h0
    rw [show takeFirst (readyAt 0) es = _ from h0]
    rfl
  · rename_i h0
    rw [show takeFirst (readyAt 0) es = _ from h0]
    split
    · rename_i h1
      rw [show takeFirst (readyAt 1) es = _ from h1]
      rfl
    · rename_i h1
      rw [show takeFirst (readyAt 1) es = _ from h1]
      rfl

/-- R122: the lowest class that has a READY entry gives it. -/
theorem selectEntry_eq_some_iff_class {y : QEntry × List QEntry} : selectEntry es = some y ↔
    ∃ k ≤ 2, (∀ j < k, takeFirst (readyAt j) es = none) ∧ takeFirst (readyAt k) es = some y := by
  simp only [selectEntry_eq_or, Option.or_eq_some_iff]
  constructor
  · rintro (h | ⟨h0, h | ⟨h1, h⟩⟩)
    · exact ⟨0, by decide, nofun, h⟩
    · exact ⟨1, by decide, fun j hj => by rwa [Nat.lt_one_iff.mp hj], h⟩
    · refine ⟨2, le_rfl, fun j hj => ?_, h⟩
      interval_cases j
      · exact h0
      · exact h1
  · rintro ⟨k, hk, hlow, h⟩
    interval_cases k
    · exact .inl h
    · exact .inr ⟨hlow 0 (by decide), .inl h⟩
    · exact .inr ⟨hlow 0 (by decide), .inr ⟨hlow 1 (by decide), h⟩⟩

/-- R122: what a queue selects, and what it leaves. -/
theorem selectEntry_eq_some_iff {x : QEntry} {rest : List QEntry} : selectEntry es = some (x, rest) ↔
    ∃ pre post, es = pre ++ x :: post ∧ rest = pre ++ post ∧ x.body.isReady = true
      ∧ (∀ y ∈ es, y.body.isReady = true → x.body.cls ≤ y.body.cls)
      ∧ (∀ y ∈ pre, y.body.isReady = true → y.body.cls ≠ x.body.cls) := by
  rw [selectEntry_eq_some_iff_class]
  constructor
  · rintro ⟨k, -, hlow, htake⟩
    obtain ⟨pre, post, hes, hrest, hx, hpre⟩ := takeFirst_some htake
    obtain ⟨hready, rfl⟩ := readyAt_iff.mp hx
    refine ⟨pre, post, hes, hrest, hready, fun y hy hyready => ?_, fun y hy => readyAt_eq_false_iff.mp (hpre y hy)⟩
    by_contra hlt
    exact readyAt_eq_false_iff.mp (takeFirst_none.mp (hlow _ (not_le.mp hlt)) y hy) hyready rfl
  · rintro ⟨pre, post, rfl, rfl, hready, hleast, hpre⟩
    refine ⟨x.body.cls, x.body.cls_le_two, fun j hj => takeFirst_none.mpr fun y hy => ?_,
      takeFirst_append_cons (readyAt_iff.mpr ⟨hready, rfl⟩) (fun y hy => readyAt_eq_false_iff.mpr (hpre y hy)) post⟩
    exact readyAt_eq_false_iff.mpr fun hyready => (hj.trans_le (hleast y hy hyready)).ne'

theorem selectEntry_eq_none_iff : selectEntry es = none ↔ ∀ y ∈ es, y.body.isReady = false := by
  refine ⟨fun h y hy => ?_, selectEntry_of_none_ready⟩
  simp only [selectEntry_eq_or, Option.or_eq_none_iff, takeFirst_none] at h
  obtain ⟨h0, h1, h2⟩ := h
  by_contra hready
  have hclass : readyAt y.body.cls y = true := readyAt_iff.mpr ⟨Bool.not_eq_false _ ▸ hready, rfl⟩
  have hle := y.body.cls_le_two
  generalize y.body.cls = k at hclass hle
  interval_cases k
  · cases (h0 y hy).symm.trans hclass
  · cases (h1 y hy).symm.trans hclass
  · cases (h2 y hy).symm.trans hclass

end

/-- Settles O30: the first class with a READY entry gives the one nearest the oldest end. -/
theorem selectionTakesLowestClassOldest : Obligations.SelectionTakesLowestClassOldest :=
  fun _ => ⟨fun _ _ => selectEntry_eq_some_iff, selectEntry_eq_none_iff⟩

/-! ## The move-out of a reply, an ASSIGN and a NOTICE (R125, R136, R149, R174) -/

/-- R174: the frame of a NOTICE to the owner, and what the notice unit keeps. -/
theorem moveNotice_of_owner {p : Port} {s : State} {o : Owner} (h : s.owner = some o) : moveNotice p s = startInjection p
    (withCheck ([0x90, o.addr, s.ownAddr, s.notice.number, 0, 0, 7, 0, 0x80, 0x00] ++ eventBytes s.notice.pending)) false
    { s with notice := { s.notice with
      marks := 0, number := s.notice.number + 1, repeatTimer := some s.settings.repeatTime.toNat } } := by
  rw [moveNotice, buildFrame_eq_withCheck, h]
  rfl

/-- Settles O32: the selected entry is moved out, and its frame is the one its source gives. -/
theorem replyMoveOutsBuildFrames : Obligations.ReplyMoveOutsBuildFrames := by
  refine ⟨fun p s time rest => ⟨fun dest src seq payload named h => ?mreply, fun b h => ?assign⟩, fun p s time rest o h ho => ?notice⟩
  case mreply =>
    refine (exec_moveOutRow_of_selects h).trans (congrArg _ ?_)
    rw [moveOut, startEntry, buildFrame_eq_withCheck]
    rfl
  case assign =>
    refine (exec_moveOutRow_of_selects h).trans (congrArg _ ?_)
    rw [moveOut, startEntry, buildFrame_eq_withCheck]
    rfl
  case notice =>
    refine (exec_moveOutRow_of_selects h).trans (congrArg _ ?_)
    rw [moveOut, startEntry, moveNotice_of_owner (by exact ho)]
    rfl

/-! ## The age-out of one queue (R123, R124, R173) -/

section
variable {p : Port} {s : State}

/-- R123, R173: a NOTICE entry of the queue is over age. -/
theorem noticeOverAge_iff : noticeOverAge p s = true ↔
    ∃ x ∈ (s.queues.get p).entries, x.body = .notice ∧ s.settings.ageLimit.toNat * 1000 < (s.timestamp - x.time).toNat := by
  simp [noticeOverAge, isFrom_notice, QEntry.overAge]

/-- R123, R169: where no reply that a restart waits for is over age, the row is the age-out alone. -/
theorem exec_queueAgeOut (hreset : s.resetPin = false) (hdue : restartDue s = false)
    (h : ∀ x ∈ (s.queues.get p).entries, x.overAge s.timestamp s.settings.ageLimit = true → x.body.isNamed = false) :
    exec (.queueAgeOut p) s = .next (ageOut p s) := by
  have queueDue := (restartDue_ageOutQueue h).trans hdue
  have due : restartDue (ageOut p s) = false := by
    unfold ageOut
    split
    · exact (restartDue_offerNotice _).trans queueDue
    · exact queueDue
  exact (if_neg (by rw [hreset]; decide)).trans (congrArg _ (settleRestart_of_not_due due))

end

/-- Settles O35: the entries over the limit go, and the notice check follows where a NOTICE is among them. -/
theorem ageOutWithdrawsOldEntries : Obligations.AgeOutWithdrawsOldEntries := by
  intro p s hreset hdue old q u hnamed
  have row := exec_queueAgeOut (p := p) hreset hdue fun x hx hold => hnamed x hx (of_decide_eq_true hold)
  have aged : ageOutQueue p s = u := by
    simp only [u, decide_not]
    rfl
  rw [row]
  refine ⟨fun hyoung => ?kept, fun hold => ?withdrawn⟩
  case kept =>
    rw [ageOut, if_neg fun h => ?_, aged]
    obtain ⟨x, hx, hbody, hold⟩ := noticeOverAge_iff.mp h
    exact hyoung x hx hbody hold
  case withdrawn => rw [ageOut, if_pos (noticeOverAge_iff.mpr hold), aged]

/-! ## The expiry of a beacon timer (R130, R131, R79) -/

section
variable {n : Fin 32} {p : Port} {s : State}

theorem entryOfSlot_eq_none_iff {es : List QEntry} : entryOfSlot n es = none ↔ ∀ x ∈ es, x.body.slotField ≠ some n := by
  simp [entryOfSlot, EntryBody.names]

/-- R131: in RELAY, with room and no entry of the slot, an entry is placed. -/
theorem expireOn_of_free (h : s.relay = .relay ∧ (s.queues.get p).occupancy < 16
    ∧ ∀ z ∈ (s.queues.get p).entries, z.body.slotField ≠ some n) : expireOn n p s = enqueued p (.beacon n) s := by
  obtain ⟨hrelay, hroom, hfree⟩ := h
  rw [expireOn, if_pos ⟨hrelay, decide_eq_true hroom, entryOfSlot_eq_none_iff.mpr hfree⟩, place_of_room hroom]
  rfl

/-- R131: otherwise the expiry is late. -/
theorem expireOn_of_not_free (h : ¬(s.relay = .relay ∧ (s.queues.get p).occupancy < 16
    ∧ ∀ z ∈ (s.queues.get p).entries, z.body.slotField ≠ some n)) : expireOn n p s = lateExpiry n s :=
  if_neg fun ⟨hrelay, hroom, hfree⟩ => h ⟨hrelay, of_decide_eq_true hroom, entryOfSlot_eq_none_iff.mp hfree⟩

/-- R131, R79: a late expiry is counted, and its slot's event added where the notify flag is set. -/
theorem lateExpiry_eq (n : Fin 32) (s : State) : lateExpiry n s =
    if s.slots[n].notify then
      offerNotice (noted (slotBit n) { s with slots := s.slots.set n { s.slots[n] with count := satInc s.slots[n].count } })
    else { s with slots := s.slots.set n { s.slots[n] with count := satInc s.slots[n].count } } := by
  have notify : (s.slots.set n { s.slots[n] with count := satInc s.slots[n].count })[n].notify = s.slots[n].notify :=
    (congrArg Slot.notify (Vector.getElem_set_self _)).trans rfl
  rw [lateExpiry, slotEvent_eq, State.setSlot_slots, notify]
  rfl

/-- R130, R131: a running timer starts its next full interval, and its expiry acts on each port of the slot. -/
theorem exec_beaconExpiry_of_running {y : BeaconSlot} (hreset : s.resetPin = false) (hbody : s.slots[n].body = .beacon y)
    (htimer : y.timer ≠ none) : exec (.beaconExpiry n) s = .next (y.ports.list.foldl (fun t p => expireOn n p t) { s with
      slots := s.slots.set n { s.slots[n] with body := .beacon { y with timer := some y.interval.toNat } } }) := by
  have started : startBeacon s.slots[n] = { s.slots[n] with body := .beacon { y with timer := some y.interval.toNat } } := by
    simp only [startBeacon, hbody]
  have running : s.slots[n].beaconTimer ≠ none := by simpa only [Slot.beaconTimer, hbody] using htimer
  have stands : (s.setSlot n (startBeacon s.slots[n])).slots[n].body = .beacon { y with timer := some y.interval.toNat } := by
    rw [State.setSlot_getElem, if_pos rfl, started]
  refine (if_pos ⟨hreset, running⟩).trans (congrArg _ ?_)
  rw [fireBeacon, stands, started]
  rfl

end

/-- Settles O36: the timer starts again, and the expiry acts once for each port its field names. -/
theorem beaconExpiryPlacesOrIsLate : Obligations.BeaconExpiryPlacesOrIsLate := by
  refine ⟨?running, fun n s hstopped => ?stopped⟩
  case running =>
    intro n y s hreset hbody htimer u late acts
    have acted (p : Port) (v : State) : expireOn n p v = acts p v := by
      by_cases h : v.relay = .relay ∧ (v.queues.get p).occupancy < 16
          ∧ ∀ z ∈ (v.queues.get p).entries, z.body.slotField ≠ some n
      · exact (expireOn_of_free h).trans (if_pos h).symm
      · exact (expireOn_of_not_free h).trans ((lateExpiry_eq n v).trans (if_neg h).symm)
    have row : exec (.beaconExpiry n) s = .next (y.ports.list.foldl (fun t p => expireOn n p t) u) :=
      exec_beaconExpiry_of_running hreset hbody htimer
    rw [row, funext₂ fun t p => acted p t]
    clear_value u
    cases y.ports <;> rfl
  case stopped => exact if_neg fun h => h.2 hstopped

end Sys2Proof.Machine
end

section
/-! SUPPORT and proof of the bounds of the injection queues (R118, R120, R121): every operation withdraws entries or changes them in
place, or places one where no bound forbids it (QueuesKept). -/

namespace Sys2Proof.Machine

/-! ## The bounds of a queue (R118, R120) -/

/-- R120: what the bounds count an entry by: the slot its slot field names, and its source. -/
def EntryBody.mark (b : EntryBody) : Option (Fin 32) × Source := (b.slotField, b.source)

/-- The marks of a queue's entries, oldest first. -/
def Queue.marks (q : Queue) : List (Option (Fin 32) × Source) := q.entries.map (fun e => e.body.mark)

/-- How many entries of a source a queue holds. -/
def Queue.number (q : Queue) (x : Source) : Nat := q.entries.countP (fun e => e.body.isFrom x)

/-- R118, R120: the bounds of one queue. -/
structure Queue.Bounded (q : Queue) : Prop where
  bound  : q.occupancy ≤ 16
  slots  : (q.entries.filterMap (fun e => e.body.slotField)).Nodup
  assign : q.number .assign ≤ 1

/-- R118, R120: the bounds of the two queues. -/
def QueuesBounded (x : PerPort Queue) : Prop := (∀ p, (x.get p).Bounded) ∧ x.a.number .notice + x.b.number .notice ≤ 1

theorem queuesOk_iff {s : State} : QueuesOk s ↔ QueuesBounded s.queues := by
  have notice : ((s.queues.a.entries ++ s.queues.b.entries).filter (fun e => e.body.isFrom .notice)).length
      = s.queues.a.number .notice + s.queues.b.number .notice := by
    rw [← List.countP_eq_length_filter, List.countP_append]
    rfl
  have number (p : Port) (x : Source) : ((s.queues.get p).entries.filter (fun e => e.body.isFrom x)).length
      = (s.queues.get p).number x := List.countP_eq_length_filter.symm
  constructor
  · intro h
    exact ⟨fun p => ⟨h.bound p, h.slots p, number p .assign ▸ h.assign p⟩, notice ▸ h.notice⟩
  · rintro ⟨h, hnotice⟩
    exact ⟨fun p => (h p).bound, fun p => (h p).slots, fun p => number p .assign ▸ (h p).assign, notice ▸ hnotice⟩

section
variable {x : PerPort Queue} {p : Port} {q r : Queue}

theorem QueuesBounded.notices (h : QueuesBounded x) (p : Port) :
    (x.get p).number .notice + (x.get (otherPort p)).number .notice ≤ 1 := by
  cases p with
  | a => exact h.2
  | b => exact (Nat.add_comm _ _).trans_le h.2

/-- A queue is replaced by one within the bounds, its NOTICE entries counted with those of the other queue. -/
theorem QueuesBounded.set (h : QueuesBounded x) (hr : r.Bounded)
    (hnotice : r.number .notice + (x.get (otherPort p)).number .notice ≤ 1) : QueuesBounded (x.set p r) := by
  refine ⟨fun o => ?_, ?_⟩
  · rw [PerPort.get_set]
    split
    · exact hr
    · exact h.1 o
  · cases p with
    | a => exact hnotice
    | b => exact (Nat.add_comm _ _).trans_le hnotice

theorem queuesBounded_of_empty (h : ∀ p, x.get p = { entries := [], held := false }) : QueuesBounded x := by
  have empty : ({ entries := [], held := false } : Queue).Bounded := ⟨by decide, List.nodup_nil, by decide⟩
  have ha := h .a
  have hb := h .b
  refine ⟨fun p => (h p).symm ▸ empty, ?_⟩
  simp only [PerPort.get] at ha hb
  simp [ha, hb, Queue.number]

/-! ### Entries withdrawn or changed in place -/

/-- A queue that has come from another by withdrawing entries and changing others in ways that no bound counts. -/
structure Queue.Within (r q : Queue) : Prop where
  occupancy : r.occupancy ≤ q.occupancy
  marks     : r.marks.Sublist q.marks

theorem Queue.number_eq_marks (q : Queue) (y : Source) : q.number y = q.marks.countP (fun m => decide (m.2 = y)) := by
  rw [marks, List.countP_map]
  rfl

theorem Queue.slotFields_eq_marks (q : Queue) : q.entries.filterMap (fun e => e.body.slotField) = q.marks.filterMap Prod.fst := by
  rw [marks, List.filterMap_map]
  rfl

theorem Queue.Within.number_le (h : r.Within q) (y : Source) : r.number y ≤ q.number y := by
  rw [number_eq_marks, number_eq_marks]
  exact h.marks.countP_le

theorem Queue.Bounded.within (hq : q.Bounded) (h : r.Within q) : r.Bounded where
  bound := h.occupancy.trans hq.bound
  slots := by
    have slots := hq.slots
    rw [slotFields_eq_marks] at slots ⊢
    exact (h.marks.filterMap _).nodup slots
  assign := (h.number_le .assign).trans hq.assign

theorem QueuesBounded.set_within (hx : QueuesBounded x) (h : r.Within (x.get p)) : QueuesBounded (x.set p r) :=
  hx.set ((hx.1 p).within h) ((Nat.add_le_add_right (h.number_le .notice) _).trans (hx.notices p))

theorem Queue.within_of_sublist {es : List QEntry} (h : es.Sublist q.entries) :
    ({ q with entries := es } : Queue).Within q :=
  ⟨Nat.add_le_add_right h.length_le _, h.map _⟩

theorem Queue.within_of_map {f : QEntry → QEntry} (h : ∀ e, (f e).body.mark = e.body.mark) :
    ({ q with entries := q.entries.map f } : Queue).Within q where
  occupancy := by simp [occupancy]
  marks := by
    have same : ({ q with entries := q.entries.map f } : Queue).marks = q.marks := by
      rw [marks, marks, List.map_map]
      exact List.map_congr_left fun e _ => h e
    rw [same]

/-! ### An entry placed -/

/-- R106, R120, R131: no bound of the queue but its room forbids the entry. -/
def Queue.Admits (q : Queue) (b : EntryBody) : Prop :=
  (∀ n, b.slotField = some n → ∀ e ∈ q.entries, e.body.slotField ≠ some n) ∧ (b.source = .assign → q.number .assign = 0)

theorem Queue.number_append (q : Queue) (e : QEntry) (held : Bool) (y : Source) :
    ({ entries := q.entries ++ [e], held := held } : Queue).number y = q.number y + if e.body.source = y then 1 else 0 := by
  simp [number, List.countP_append, List.countP_singleton, EntryBody.isFrom]

theorem Queue.Bounded.append (hq : q.Bounded) {e : QEntry} {held : Bool} (h : q.Admits e.body)
    (hroom : ({ entries := q.entries ++ [e], held := held } : Queue).occupancy ≤ 16) :
    ({ entries := q.entries ++ [e], held := held } : Queue).Bounded where
  bound := hroom
  slots := by
    rw [List.filterMap_append]
    refine hq.slots.append (by cases hn : e.body.slotField <;> simp [hn]) fun n hold hnew => ?_
    obtain ⟨y, hy, hyn⟩ := List.mem_filterMap.mp hold
    obtain ⟨z, hz, hzn⟩ := List.mem_filterMap.mp hnew
    obtain rfl := List.mem_singleton.mp hz
    exact h.1 n hzn y hy hyn
  assign := by
    have assign := hq.assign
    rw [number_append]
    split
    · rw [h.2 ‹_›]
    · exact assign

/-- R118, R120: an entry joins a queue that admits it; a NOTICE joins where neither queue holds one. -/
theorem QueuesBounded.set_append (hx : QueuesBounded x) {e : QEntry} {held : Bool} (h : (x.get p).Admits e.body)
    (hnotice : e.body.source = .notice → ∀ o, (x.get o).number .notice = 0)
    (hroom : ({ entries := (x.get p).entries ++ [e], held := held } : Queue).occupancy ≤ 16) :
    QueuesBounded (x.set p { entries := (x.get p).entries ++ [e], held := held }) := by
  refine hx.set ((hx.1 p).append h hroom) ?_
  have notices := hx.notices p
  rw [Queue.number_append]
  split
  · rw [hnotice ‹_›, hnotice ‹_›]
  · exact notices

/-- R120: no bound counts a reply. -/
theorem Queue.admits_mreply (q : Queue) (dest src seq : Byte) (payload : List Byte) (named : Bool) :
    q.Admits (.mreply dest src seq payload named) := ⟨nofun, nofun⟩

/-- R106, R131: an entry of a slot that no entry of the queue names. -/
theorem Queue.admits_of_free {b : EntryBody} {n : Fin 32} (hslot : b.slotField = some n) (hsource : b.source ≠ .assign)
    (hfree : entryOfSlot n q.entries = none) : q.Admits b := by
  refine ⟨fun m hm => ?_, fun h => absurd h hsource⟩
  cases hslot.symm.trans hm
  exact entryOfSlot_eq_none_iff.mp hfree

theorem Queue.admits_notice (q : Queue) : q.Admits .notice := ⟨nofun, nofun⟩

end

/-! ## What an operation keeps of the queues -/

/-- An operation that keeps the bounds of the queues. -/
def QueuesKept (s t : State) : Prop := QueuesBounded s.queues → QueuesBounded t.queues

namespace QueuesKept

variable {s t u : State}

theorem refl (s : State) : QueuesKept s s := id

theorem of_same (h : t.queues = s.queues) : QueuesKept s t := fun hs => h ▸ hs

theorem trans (h : QueuesKept s t) (k : QueuesKept t u) : QueuesKept s u := k ∘ h

/-- What comes before in the event leaves the queues. -/
theorem after (k : QueuesKept t u) (h : t.queues = s.queues) : QueuesKept s u := (of_same h).trans k

theorem foldl {α : Type} {f : State → α → State} (hf : ∀ s a, QueuesKept s (f s a)) (l : List α) (s : State) :
    QueuesKept s (l.foldl f s) := by
  induction l generalizing s with
  | nil => exact refl s
  | cons a l ih => exact (hf s a).trans (ih _)

/-- R28, R170: an operation that empties both queues. -/
theorem of_empty (h : ∀ p, t.queues.get p = { entries := [], held := false }) : QueuesKept s t :=
  fun _ => queuesBounded_of_empty h

end QueuesKept

section
variable {s : State} {p : Port} {n : Fin 32}

theorem queuesKept_setQueue_within {q : Queue} (h : q.Within (s.queues.get p)) : QueuesKept s (s.setQueue p q) :=
  fun hs => hs.set_within h

theorem queuesKept_place {b : EntryBody} (h : (s.queues.get p).Admits b)
    (hnotice : b.source = .notice → ∀ o, (s.queues.get o).number .notice = 0) : QueuesKept s (place p b s) := by
  by_cases hroom : (s.queues.get p).occupancy < 16
  · rw [place_of_room hroom]
    refine fun hs => hs.set_append h hnotice ?_
    simp only [Queue.occupancy, List.length_append, List.length_singleton] at hroom ⊢
    omega
  · rw [place_of_full (not_lt.mp hroom)]
    exact .refl s

/-- R120: of the queues' bounds a reply meets the room alone. -/
theorem queuesKept_placeReply (e : Envelope) (payload : List Byte) (named : Bool) (s : State) :
    QueuesKept s (placeReply e payload named s) := queuesKept_place (Queue.admits_mreply ..) nofun

theorem queuesKept_withdrawFrom (t : EntryBody → Bool) (p : Port) (s : State) : QueuesKept s (withdrawFrom t p s) :=
  queuesKept_setQueue_within (s := s) (Queue.within_of_sublist List.filter_sublist)

theorem queuesKept_withdraw (t : EntryBody → Bool) (s : State) : QueuesKept s (withdraw t s) :=
  (queuesKept_withdrawFrom t .a s).trans (queuesKept_withdrawFrom t .b _)

/-! ## Events, slots and the owner -/

/-- R120, R173: a NOTICE is offered where neither queue holds one. -/
theorem number_notice_of_wanted (h : noticeWanted s = true) (p : Port) : (s.queues.get p).number .notice = 0 := by
  simp only [noticeWanted, noticeQueued, Bool.and_eq_true, Bool.not_eq_true', Bool.or_eq_false_iff] at h
  obtain ⟨⟨⟨-, ha, hb⟩, -⟩, -⟩ := h
  rw [Queue.number, List.countP_eq_zero]
  cases p with
  | a => simpa [PerPort.get] using ha
  | b => simpa [PerPort.get] using hb

/-- R120, R173: a NOTICE joins the queue of the owner port where it is wanted. -/
theorem queuesKept_offerNotice (s : State) : QueuesKept s (offerNotice s) := by
  unfold offerNotice
  split
  · exact .refl s
  · split
    · rename_i h
      exact queuesKept_place (Queue.admits_notice _) fun _ => number_notice_of_wanted h
    · exact .refl s

theorem queuesKept_addEvent (bit : BitVec 34) (s : State) : QueuesKept s (addEvent bit s) :=
  (queuesKept_offerNotice (noted bit s)).after rfl

theorem queuesKept_slotEvent (n : Fin 32) (s : State) : QueuesKept s (slotEvent n s) := by
  unfold slotEvent
  split
  · exact queuesKept_addEvent _ s
  · exact .refl s

theorem queuesKept_lapse (n : Fin 32) (s : State) : QueuesKept s (lapse n s) := by
  unfold lapse
  split
  · exact (queuesKept_slotEvent n _).after rfl
  · exact (queuesKept_slotEvent n _).after rfl
  · exact .refl s

theorem queuesKept_captureCommit (n : Fin 32) (r : CapturedRecord) (s : State) : QueuesKept s (captureCommit n r s) := by
  unfold captureCommit
  split
  iterate 4 exact (queuesKept_slotEvent n _).after rfl
  exact .refl s

theorem queuesKept_learnCommit (n : Fin 32) (payload : List Byte) (aux : Byte) (s : State) :
    QueuesKept s (learnCommit n payload aux s) := by
  unfold learnCommit
  split
  · exact (queuesKept_slotEvent n _).after rfl
  · exact .refl s

theorem queuesKept_foldl_lapse (l : List (Fin 32)) (s : State) : QueuesKept s (l.foldl (fun t n => lapse n t) s) :=
  .foldl (fun t n => queuesKept_lapse n t) l s

theorem queuesKept_clearOwner (s : State) : QueuesKept s (clearOwner s) :=
  .trans (t := lapseAll { s with owner := none }) (queuesKept_foldl_lapse s.holdList { s with owner := none })
    (queuesKept_withdraw _ _)

theorem queuesKept_settleExpiry (s : State) : QueuesKept s (settleExpiry s) := by
  unfold settleExpiry
  split
  · exact (queuesKept_offerNotice _).after rfl
  · exact (queuesKept_offerNotice _).after rfl

theorem queuesKept_relayToFallback (s : State) : QueuesKept s (relayToFallback s) :=
  (queuesKept_withdraw EntryBody.hasSlot s).trans ((queuesKept_offerNotice _).after rfl)

theorem queuesKept_setLatch (s : State) : QueuesKept s (setLatch s) := by
  unfold setLatch
  split
  · exact (queuesKept_relayToFallback _).after rfl
  · exact .of_same rfl

theorem queuesKept_expireLease (o : Owner) (s : State) : QueuesKept s (expireLease o s) := by
  unfold expireLease
  split
  · exact queuesKept_clearOwner s
  · exact (queuesKept_clearOwner s).trans (queuesKept_setLatch _)

/-! ## The path of a frame -/

theorem queuesKept_endCommit (p : Port) (cls : EndClass) (f : InFlight) (s : State) : QueuesKept s (endCommit p cls f s) := by
  unfold endCommit
  split
  · split
    · exact .refl s
    · split
      · exact queuesKept_captureCommit _ _ s
      · exact .refl s
    · exact .refl s
    · split
      · exact queuesKept_learnCommit _ _ _ s
      · exact .refl s
  · exact .refl s

/-- R121: a reservation that becomes READY names its slot still. -/
theorem mark_makeReady (b : EntryBody) : (makeReady b).mark = b.mark := by cases b <;> rfl

theorem queuesKept_pollEnd (p : Port) (cls : EndClass) (n : Fin 32) (g : Byte) (s : State) :
    QueuesKept s (pollEnd p cls n g s) := by
  unfold pollEnd
  split
  · split
    · refine queuesKept_setQueue_within (Queue.within_of_map fun e => ?_)
      split
      · exact mark_makeReady e.body
      · rfl
    · exact (queuesKept_withdrawFrom _ p s).trans (.of_same rfl)
  · exact .refl s

theorem queuesKept_endVerdict (p : Port) (cls : EndClass) (f : InFlight) (s : State) : QueuesKept s (endVerdict p cls f s) := by
  unfold endVerdict
  split
  · exact (queuesKept_endCommit p cls f _).after rfl
  · exact queuesKept_endCommit p cls f s
  · split
    · exact queuesKept_pollEnd p cls _ _ s
    · exact .refl s
  all_goals exact .refl s

theorem queuesKept_closeFlight (p : Port) (cls : EndClass) (s : State) : QueuesKept s (closeFlight p cls s) := by
  unfold closeFlight
  split
  · exact .refl s
  · exact (queuesKept_endVerdict p cls _ s).trans (.of_same rfl)

theorem queuesKept_relayByte (p : Port) (b : Byte) (payload : Bool) (s : State) : QueuesKept s (relayByte p b payload s) := by
  have taken (t : State) : (inboxByte p b payload t).queues = t.queues := by
    unfold inboxByte
    repeat' split
    all_goals rfl
  refine .of_same ((taken _).trans ?_)
  unfold pathByte
  split
  · rfl
  · dsimp only
    split <;> rfl

/-- R106, R107: a reservation is placed where no entry of the queue names the slot. -/
theorem queuesKept_reserve (h : Header) (hfree : entryOfSlot n (s.queues.get p).entries = none) :
    QueuesKept s (reserve p h n s) :=
  (queuesKept_place (b := .answer n s.slots[n].gen false h.src h.dest h.seq h.tag) (Queue.admits_of_free rfl nofun hfree)
    nofun).trans (.of_same rfl)

theorem queuesKept_pollTest (p : Port) (h : Header) (n : Fin 32) (x : AnswerSlot) (s : State) :
    QueuesKept s (pollTest p h n x s).1 := by
  unfold pollTest
  split
  · exact .of_same rfl
  · split
    · exact .of_same rfl
    · split
      · exact .of_same rfl
      · split
        · exact .of_same rfl
        · split
          · split <;> exact .of_same rfl
          · split
            · exact queuesKept_reserve h ‹_›
            · exact .of_same rfl

theorem queuesKept_entryDecision (p : Port) (h : Header) (i : Fin 64) (e : Entry) (s : State) :
    QueuesKept s (entryDecision p h i e s).1 := by
  unfold entryDecision
  split
  case h_7 =>
    split
    · rename_i n _ _ _ x _
      have tested := queuesKept_pollTest p h n x s
      split
      all_goals
        rename_i hpoll
        rw [hpoll] at tested
        exact tested
    · exact .of_same rfl
  case h_1 | h_2 | h_3 => exact .of_same rfl
  all_goals split <;> exact .of_same rfl

theorem queuesKept_matchDecision (p : Port) (h : Header) (s : State) : QueuesKept s (matchDecision p h s).1 := by
  unfold matchDecision defaultDecision
  split
  · split <;> exact .of_same rfl
  · exact (queuesKept_entryDecision p h _ _ _).after rfl

theorem queuesKept_decideHeader (p : Port) (h : Header) (s : State) : QueuesKept s (decideHeader p h s).1 := by
  have matched : QueuesKept s (if s.relay = .relay then matchDecision p h s else (s, plainDecision .forward .none)).1 := by
    split
    · exact queuesKept_matchDecision p h s
    · exact .refl s
  unfold decideHeader mgmtDecision
  split
  · repeat' split
    all_goals exact .of_same rfl
  · exact .refl s
  · exact .of_same rfl
  · exact .of_same rfl
  all_goals exact matched

theorem queuesKept_headerReport (p : Port) (h : Header) (now : Wide) (s : State) : QueuesKept s (headerReport p h now s) := by
  unfold headerReport
  split
  · refine (queuesKept_decideHeader p h s).trans (.of_same ?_)
    unfold holdHeader
    dsimp only
    split <;> rfl
  · unfold undecidedHeader
    split <;> exact .of_same rfl

/-! ## A port's way out of the line, and back (R12, R17, R20, R28) -/

theorem queuesKept_cutFrame (p : Port) (s : State) : QueuesKept s (cutFrame p s) := by
  unfold cutFrame
  split
  · exact .refl s
  · exact (queuesKept_closeFlight p .aborted s).trans (.of_same rfl)

theorem queuesKept_leaveSynced (ps : List Port) (s : State) : QueuesKept s (leaveSynced ps s) := by
  rw [leaveSynced_eq]
  refine .trans (.foldl (fun t p => queuesKept_cutFrame p t) ps s) ?_
  unfold outOfLine
  split
  · exact .refl _
  · exact .of_empty (enterBypass_queues _)

theorem queuesKept_enterFault (ps : List Port) (s : State) : QueuesKept s (enterFault ps s) := by
  have faulted : (ps.foldl (fun t p => setFault p t) s).queues = s.queues := by rw [foldl_setFault_frame]
  exact ((queuesKept_leaveSynced ps _).after faulted).trans (.foldl (fun t p => queuesKept_addEvent (portBit p) t) ps _)

theorem queuesKept_bucketAdd (p : Port) (n : Nat) (s : State) : QueuesKept s (bucketAdd p n s) := by
  unfold bucketAdd
  split
  · exact .refl s
  · split
    · exact queuesKept_enterFault [p] s
    · exact .of_same rfl

theorem queuesKept_compareLimits (s : State) : QueuesKept s (compareLimits s) := by
  unfold compareLimits
  split
  · exact .refl s
  · exact queuesKept_enterFault _ s

theorem joinCheck_queues (s : State) : (joinCheck s).queues = s.queues := by
  unfold joinCheck
  split <;> rfl

theorem queuesKept_startSync (p : Port) (s : State) : QueuesKept s (startSync p s) := (queuesKept_addEvent _ _).after rfl

theorem queuesKept_releasePort (p : Port) (s : State) : QueuesKept s (releasePort p s) := by
  unfold releasePort
  split
  · exact queuesKept_startSync p s
  · exact .refl s

theorem queuesKept_portSynced (p : Port) (s : State) : QueuesKept s (portSynced p s) :=
  (queuesKept_addEvent _ _).after (joinCheck_queues _)

theorem queuesKept_coolDownEnd (p : Port) (s : State) : QueuesKept s (coolDownEnd p s) := (queuesKept_addEvent _ _).after rfl

theorem queuesKept_loseSignal (p : Port) (s : State) : QueuesKept s (loseSignal p s) := by
  unfold loseSignal
  refine .trans ?_ (queuesKept_addEvent _ _)
  split
  · exact (queuesKept_leaveSynced [p] _).after rfl
  · exact .of_same rfl

theorem queuesKept_restartBegin (s : State) : QueuesKept s (restartBegin s) := .of_empty fun p => by cases p <;> rfl

theorem queuesKept_settleRestart (s : State) : QueuesKept s (settleRestart s) := by
  unfold settleRestart
  split
  · exact queuesKept_restartBegin s
  · exact .refl s

/-! ## The outputs (R49, R125) -/

/-- R122: what a selection leaves stands in its order. -/
theorem selectEntry_sublist {es rest : List QEntry} {x : QEntry} (h : selectEntry es = some (x, rest)) : rest.Sublist es := by
  obtain ⟨pre, post, rfl, rfl, -⟩ := selectEntry_eq_some_iff.mp h
  exact (List.sublist_cons_self x post).append_left pre

theorem queuesKept_moveOut {x : QEntry} {rest : List QEntry} (h : selectEntry (s.queues.get p).entries = some (x, rest)) :
    QueuesKept s (moveOut p x rest s) := by
  obtain ⟨-, started, -⟩ := startEntry_path p x.body (s.setQueue p { s.queues.get p with entries := rest })
  unfold moveOut
  rw [countInjected_frame]
  exact (queuesKept_setQueue_within (Queue.within_of_sublist (selectEntry_sublist h))).trans (.of_same started)

theorem queuesKept_moveOutFrom (x : Source) (p : Port) (s : State) : QueuesKept s (moveOutFrom x p s) := by
  unfold moveOutFrom
  split
  · split
    · split
      · exact queuesKept_moveOut ‹_›
      · exact .refl s
    · exact .refl s
  · exact .refl s

theorem queuesKept_arbitrate (p : Port) (s : State) : QueuesKept s (arbitrate p s) := by
  unfold arbitrate
  split
  · exact .of_same rfl
  · split
    · split
      · exact queuesKept_moveOut ‹_›
      · exact .refl s
    · exact .refl s

theorem sendNext_queues (p : Port) (s : State) : (sendNext p s).queues = s.queues := by
  unfold sendNext sendPlace sendMark
  repeat' split
  all_goals rfl

theorem queuesKept_transmit (p : Port) (s : State) : QueuesKept s (transmit p s) := by
  have relayed : QueuesKept s (sendNext p (arbitrate p s)) := (queuesKept_arbitrate p s).trans (.of_same (sendNext_queues p _))
  unfold transmit
  split
  · unfold sendInBypass
    dsimp only
    split <;> exact .of_same rfl
  · exact .of_same (sendNext_queues p s)
  · exact relayed
  · exact relayed

/-! ## The ticks and the timers -/

theorem queuesKept_ageOutQueue (p : Port) (s : State) : QueuesKept s (ageOutQueue p s) :=
  queuesKept_setQueue_within (s := s) (Queue.within_of_sublist List.filter_sublist)

theorem queuesKept_ageOut (p : Port) (s : State) : QueuesKept s (ageOut p s) := by
  unfold ageOut
  split
  · exact (queuesKept_ageOutQueue p s).trans (queuesKept_offerNotice _)
  · exact queuesKept_ageOutQueue p s

theorem queuesKept_agedOut (s : State) : QueuesKept s (agedOut s) := by
  have both := (queuesKept_ageOutQueue .a s).trans (queuesKept_ageOutQueue .b _)
  rw [← ageOutBoth_eq_agedOut, ageOutBoth]
  split
  · exact both.trans (queuesKept_offerNotice _)
  · exact both

/-- R131: an expiry places an entry where no entry of the queue names the slot. -/
theorem queuesKept_expireOn (n : Fin 32) (p : Port) (s : State) : QueuesKept s (expireOn n p s) := by
  unfold expireOn
  split
  · rename_i h
    obtain ⟨-, -, hfree⟩ := h
    exact queuesKept_place (Queue.admits_of_free rfl nofun hfree) nofun
  · exact (queuesKept_slotEvent n _).after rfl

theorem queuesKept_fireBeacon (n : Fin 32) (s : State) : QueuesKept s (fireBeacon n s) := by
  unfold fireBeacon
  split
  · exact .foldl (fun t p => queuesKept_expireOn n p t) _ s
  · exact .refl s

theorem queuesKept_fireBeacons (c : Nat) (due : List (Fin 32)) (s : State) : QueuesKept s (fireBeacons c due s) :=
  .foldl (fun t n => queuesKept_fireBeacon n t) _ s

theorem queuesKept_tickCoolDown (p : Port) (s : State) : QueuesKept s (tickCoolDown p s) := by
  unfold tickCoolDown
  split
  · exact .refl s
  · split
    · exact queuesKept_coolDownEnd p s
    · exact .of_same rfl

theorem queuesKept_tickSettle (s : State) : QueuesKept s (tickSettle s) := by
  unfold tickSettle
  split
  · exact .refl s
  · split
    · exact queuesKept_settleExpiry s
    · exact .of_same rfl

theorem queuesKept_tick1ms (s : State) : QueuesKept s (tick1ms s) := by
  refine tick1ms_stages (P := QueuesKept s) (Q := QueuesKept s) ?start (fun t k h => h.trans (.of_same rfl))
    (fun c due t h => h.trans (queuesKept_fireBeacons c due t)) (fun t h => h.trans (queuesKept_tickSettle t))
    (fun t h => h.trans (queuesKept_agedOut t)) (fun c due t h => h.trans (queuesKept_fireBeacons c due t))
  exact ((queuesKept_tickCoolDown .a _).trans (queuesKept_tickCoolDown .b _)).after rfl

theorem queuesKept_takeTick1 (s : State) : QueuesKept s (takeTick1 s) := by
  unfold takeTick1
  split
  · exact ((queuesKept_tick1ms _).trans (queuesKept_settleRestart _)).after rfl
  · exact .refl s

theorem queuesKept_tickRepeat (s : State) : QueuesKept s (tickRepeat s) := by
  unfold tickRepeat
  split
  · exact .refl s
  · split
    · exact (queuesKept_offerNotice _).after rfl
    · exact .of_same rfl

theorem queuesKept_takeTick10 (s : State) : QueuesKept s (takeTick10 s) := by
  unfold takeTick10
  split
  · exact (((queuesKept_foldl_lapse _ _).trans (queuesKept_tickRepeat _)).trans (queuesKept_offerNotice _)).after rfl
  · exact .refl s

theorem queuesKept_takeTick100 (s : State) : QueuesKept s (takeTick100 s) := by
  unfold takeTick100 tick100ms
  split
  · split
    · exact .of_same rfl
    · split
      · exact (queuesKept_expireLease _ _).after rfl
      · exact .of_same rfl
  · exact .refl s

theorem queuesKept_advanceTime (s : State) : QueuesKept s (advanceTime s) :=
  ((queuesKept_takeTick1 s).trans (queuesKept_takeTick10 _)).trans ((queuesKept_takeTick100 _).trans (.of_same rfl))

/-! ## A running copy (R67, R68) -/

/-- R118: the reply takes the place that was held for it. -/
theorem queuesKept_completeCopy (s : State) : QueuesKept s (completeCopy s) := by
  unfold completeCopy fillHeldPlace
  split
  · exact .refl s
  · rename_i _ q _ _ _
    split
    · rename_i hheld
      intro hs
      refine hs.set_append (Queue.admits_mreply ..) nofun ?_
      have bound := (hs.1 q).bound
      simp only [Queue.occupancy, if_pos hheld] at bound
      simpa [Queue.occupancy] using bound
    · exact .of_same rfl

theorem queuesKept_advanceCopy (s : State) : QueuesKept s (advanceCopy s) := by
  unfold advanceCopy
  split
  · exact .refl s
  · split
    · dsimp only
      split
      · exact (queuesKept_completeCopy _).after rfl
      · exact .of_same rfl
    · exact queuesKept_completeCopy s

end

/-! ## Requests -/

/-- A request whose run, where the arrival port's queue has room, and whose aftermath keep the bounds of the queues. -/
def Handler.QueueSafe (f : Handler) : Prop :=
  (∀ e s, (s.queues.get e.port).room = true → QueuesKept s (f.run e s).1) ∧ ∀ a s, QueuesKept s (f.after a s)

section
variable {s : State}

theorem queuesKept_noAfter (a : Answer) (s : State) : QueuesKept s (noAfter a s) := .refl s

theorem Handler.QueueSafe.of_kept {f : Handler} (hrun : ∀ e s, QueuesKept s (f.run e s).1) (hafter : f.after = noAfter) :
    f.QueueSafe := ⟨fun e s _ => hrun e s, hafter ▸ queuesKept_noAfter⟩

/-- A request that leaves the queues to its reply. -/
theorem Handler.QueueSafe.of_apart {f : Handler} (hrun : ∀ e s, (f.run e s).1.queues = s.queues) (hafter : f.after = noAfter) :
    f.QueueSafe := .of_kept (fun e s => .of_same (hrun e s)) hafter

theorem queueSafe_ident (ps : List Byte) : (identHandler ps).QueueSafe := .of_apart (fun _ _ => rfl) rfl

theorem queueSafe_claim (ps : List Byte) : (claimHandler ps).QueueSafe := by
  refine ⟨fun e s _ => .of_same ?run, fun a s => ?after⟩
  case run =>
    dsimp only [claimHandler, runClaim]
    repeat' split
    all_goals rfl
  case after =>
    dsimp only [claimHandler]
    split
    · exact queuesKept_offerNotice s
    · exact .refl s

theorem queueSafe_renounce (ps : List Byte) : (renounceHandler ps).QueueSafe := .of_kept (fun _ s => queuesKept_clearOwner s) rfl

theorem queueSafe_settingsRead (ps : List Byte) : (settingsReadHandler ps).QueueSafe := .of_apart (fun _ _ => rfl) rfl

theorem queueSafe_settingsWrite (ps : List Byte) : (settingsWriteHandler ps).QueueSafe := by
  refine ⟨fun e s _ => .of_same ?run, fun a s => ?after⟩
  case run =>
    dsimp only [settingsWriteHandler, runSettingsWrite]
    split <;> rfl
  case after =>
    dsimp only [settingsWriteHandler]
    split
    · exact queuesKept_compareLimits s
    · exact .refl s

theorem queueSafe_entryRead (ps : List Byte) : (entryReadHandler ps).QueueSafe := by
  refine .of_apart (fun e s => ?_) rfl
  dsimp only [entryReadHandler, runEntryRead]
  repeat' split
  all_goals rfl

theorem queueSafe_entryWrite (ps : List Byte) : (entryWriteHandler ps).QueueSafe := by
  refine .of_apart (fun e s => ?_) rfl
  dsimp only [entryWriteHandler, runEntryWrite]
  repeat' split
  all_goals rfl

theorem queueSafe_entryClear (ps : List Byte) : (entryClearHandler ps).QueueSafe := by
  refine .of_apart (fun e s => ?_) rfl
  dsimp only [entryClearHandler, runEntryClear]
  repeat' split
  all_goals rfl

/-- R67, R118: a copy holds a place of a queue that has room. -/
theorem queueSafe_bankCopy (ps : List Byte) : (bankCopyHandler ps).QueueSafe := by
  refine ⟨fun e s hroom => ?_, queuesKept_noAfter⟩
  dsimp only [bankCopyHandler, runBankCopy]
  split
  · exact .refl s
  · have held : ({ s.queues.get e.port with held := true } : Queue).occupancy ≤ 16 := by
      have room := of_decide_eq_true hroom
      simp only [Queue.occupancy, if_true] at room ⊢
      omega
    exact fun hs => hs.set { hs.1 e.port with bound := held } (hs.notices e.port)

theorem queueSafe_bankSwap (ps : List Byte) : (bankSwapHandler ps).QueueSafe := by
  refine .of_apart (fun e s => ?_) rfl
  dsimp only [bankSwapHandler, runBankSwap]
  repeat' split
  all_goals rfl

theorem queueSafe_slotSetup (ps : List Byte) : (slotSetupHandler ps).QueueSafe := by
  refine .of_kept (fun e s => ?_) rfl
  dsimp only [slotSetupHandler, runSlotSetup]
  split
  · exact .refl s
  · split
    · exact .refl s
    · split
      · exact .refl s
      · exact (queuesKept_withdraw _ _).after rfl

theorem queueSafe_slotLoad (ps : List Byte) : (slotLoadHandler ps).QueueSafe := by
  refine .of_apart (fun e s => ?_) rfl
  dsimp only [slotLoadHandler, runSlotLoad]
  repeat' split
  all_goals rfl

theorem queueSafe_slotReadPlain (slot : Byte) : (slotReadPlainHandler slot).QueueSafe := by
  refine .of_apart (fun e s => ?_) rfl
  dsimp only [slotReadPlainHandler, runReadPlain]
  split <;> rfl

theorem queueSafe_slotReadHold (slot : Byte) : (slotReadHoldHandler slot).QueueSafe := by
  refine .of_apart (fun e s => ?_) rfl
  dsimp only [slotReadHoldHandler, runReadHold]
  repeat' split
  all_goals rfl

theorem queueSafe_slotRelease (ps : List Byte) : (slotReleaseHandler ps).QueueSafe := by
  refine .of_apart (fun e s => ?_) rfl
  dsimp only [slotReleaseHandler, runSlotRelease]
  repeat' split
  all_goals rfl

theorem queueSafe_noticeAck (ps : List Byte) : (noticeAckHandler ps).QueueSafe := by
  refine .of_apart (fun e s => ?_) rfl
  dsimp only [noticeAckHandler, runNoticeAck]
  split <;> rfl

theorem runStats_queues (clear : Bool) (group : Byte) (s : State) : (runStats clear group s).1.queues = s.queues := by
  have recounted (v : Vector Slot 32) : { s with slots := v }.queues = s.queues := rfl
  have cleared (g : Group) : (clearGroup g s).queues = s.queues := by
    cases g with
    | slots0 | slots1 => exact recounted _
    | _ => rfl
  unfold runStats
  split
  · rfl
  · dsimp only
    split
    · exact cleared _
    · rfl

theorem queueSafe_statsPlain (group : Byte) : (statsPlainHandler group).QueueSafe :=
  .of_apart (fun _ => runStats_queues false group) rfl

theorem queueSafe_statsClear (group : Byte) : (statsClearHandler group).QueueSafe :=
  .of_apart (fun _ => runStats_queues true group) rfl

theorem queueSafe_restart (ps : List Byte) : (restartHandler ps).QueueSafe := .of_apart (fun _ _ => rfl) rfl

theorem queueSafe_refused (st : Status) : (refusedHandler st).QueueSafe := .of_apart (fun _ _ => rfl) rfl

theorem queueSafe_select {f g : Byte → Handler} (hf : ∀ x, (f x).QueueSafe) (hg : ∀ x, (g x).QueueSafe) (ps : List Byte) :
    (selectHandler f g ps).QueueSafe := by
  unfold selectHandler
  split
  · split
    · exact hf _
    · split
      · exact hg _
      · exact queueSafe_refused _
  · exact queueSafe_refused _

theorem Handler.QueueSafe.ite {c : Prop} [Decidable c] {f g : Handler} (hf : f.QueueSafe) (hg : g.QueueSafe) :
    (if c then f else g).QueueSafe := by
  split
  · exact hf
  · exact hg

/-- Whatever a request's payload says, the request it stands for keeps the bounds of the queues. -/
theorem queueSafe_handlerOf (code : Byte) (ps : List Byte) : (handlerOf code ps).QueueSafe :=
  .ite (queueSafe_ident ps) <|
  .ite (queueSafe_claim ps) <|
  .ite (queueSafe_renounce ps) <|
  .ite (queueSafe_settingsRead ps) <|
  .ite (queueSafe_settingsWrite ps) <|
  .ite (queueSafe_entryRead ps) <|
  .ite (queueSafe_entryWrite ps) <|
  .ite (queueSafe_entryClear ps) <|
  .ite (queueSafe_bankCopy ps) <|
  .ite (queueSafe_bankSwap ps) <|
  .ite (queueSafe_slotSetup ps) <|
  .ite (queueSafe_slotLoad ps) <|
  .ite (queueSafe_select queueSafe_slotReadPlain queueSafe_slotReadHold ps) <|
  .ite (queueSafe_slotRelease ps) <|
  .ite (queueSafe_noticeAck ps) <|
  .ite (queueSafe_select queueSafe_statsPlain queueSafe_statsClear ps) <|
  .ite (queueSafe_restart ps) <|
  queueSafe_refused _

/-! ## The agent (R135, R137, R149) -/

theorem queuesKept_finishRequest (e : Envelope) (code : Byte) (a : Answer) (s : State) :
    QueuesKept s (finishRequest e code a s) := by
  have recorded (st : Status) (reply : Option (List Byte)) (t : State) :
      (countAnswer st (recordRequest e reply t)).queues = t.queues := by
    unfold countAnswer recordRequest
    split <;> split <;> rfl
  cases a with
  | reply => exact (queuesKept_placeReply _ _ _ s).trans (.of_same (recorded _ _ _))
  | copyStarted => exact .of_same (recorded _ _ _)

theorem queuesKept_duplicate (e : Envelope) (x : CacheEntry) (s : State) : QueuesKept s (duplicate e x s) := by
  unfold duplicate
  dsimp only
  split
  · exact .of_same rfl
  · split
    · exact (queuesKept_placeReply _ _ _ _).after rfl
    · exact .of_same rfl

theorem queuesKept_examine {f : Handler} (hf : f.QueueSafe) (code : Byte) (e : Envelope) (s : State) :
    QueuesKept s (examine f code e s) := by
  obtain ⟨hrun, hafter⟩ := hf
  unfold examine
  split
  · exact queuesKept_duplicate e _ s
  · split
    · rename_i hroom
      have ran : QueuesKept s (runRequest f e s).1 := by
        rcases runRequest_cases f e s with h | h
        · exact .of_same (by rw [h])
        · rw [h]
          exact hrun e s hroom
      exact (ran.trans (queuesKept_finishRequest e code _ _)).trans (hafter _ _)
    · exact .of_same rfl

theorem queuesKept_agentRequest {f : Handler} (hf : f.QueueSafe) (code : Byte) (e : Envelope) (s : State) :
    QueuesKept s (agentRequest f code e s) := by
  unfold agentRequest
  split
  · exact .refl s
  · split
    · exact .of_same rfl
    · split
      · exact .of_same rfl
      · exact queuesKept_examine hf code e s

/-- R120: an ASSIGN takes the place of the one queued, or is placed where none is. -/
theorem queuesKept_offerAssign (p : Port) (b : Byte) (s : State) : QueuesKept s (offerAssign p b s) := by
  unfold offerAssign
  split
  · refine queuesKept_setQueue_within (Queue.within_of_map fun e => ?_)
    split
    · rename_i h
      cases hbody : e.body with
      | assign => rfl
      | _ => simp [hbody, EntryBody.isFrom, EntryBody.source] at h
    · rfl
  · rename_i hnone
    split
    · refine queuesKept_place ⟨nofun, fun _ => ?_⟩ nofun
      simpa [hasAssign, Queue.number, List.countP_eq_zero] using hnone
    · exact .of_same rfl

theorem queuesKept_assignEnd (p : Port) (n : Byte) (s : State) : QueuesKept s (assignEnd p n s) := by
  unfold assignEnd
  split
  · split
    · exact queuesKept_offerAssign _ _ s
    · exact (queuesKept_offerAssign _ _ _).after rfl
  · exact .of_same rfl

theorem queuesKept_agentEnd (p : Port) (cls : EndClass) (s : State) : QueuesKept s (agentEnd p cls s) := by
  unfold agentEnd
  split
  · exact .refl s
  · split
    · split
      · exact (queuesKept_agentRequest (queueSafe_handlerOf _ _) _ _ _).after rfl
      · exact (queuesKept_assignEnd p _ _).after rfl
      · exact .of_same rfl
    · exact .of_same rfl

/-! ## The receivers -/

theorem queuesKept_frameEnd (p : Port) (cls : EndClass) (x : LineEvent) (s : State) : QueuesKept s (frameEnd p cls x s) := by
  have closed := queuesKept_closeFlight p cls (countEnd p cls (s.setRx p (rxAfterEnd s.timestamp x (s.rx.get p))))
  have counted : (countEnd p cls (s.setRx p (rxAfterEnd s.timestamp x (s.rx.get p)))).queues = s.queues := by
    rw [countEnd_eq]
    rfl
  exact ((closed.after counted).trans (queuesKept_agentEnd p cls _)).trans
    ((queuesKept_bucketAdd p _ _).trans (.of_same (joinCheck_queues _)))

theorem queuesKept_headerByte (p : Port) (b : Byte) (s : State) : QueuesKept s (headerByte p b s) := by
  unfold headerByte
  dsimp only
  split
  · exact .of_same rfl
  · split
    · split
      · exact .of_same rfl
      · exact (queuesKept_headerReport _ _ _ _).after rfl
    · split
      · exact (queuesKept_frameEnd _ _ _ _).after rfl
      · exact (queuesKept_frameEnd _ _ _ _).after (by rw [lengthAtHeader_frame]; rfl)

theorem queuesKept_bodyByte (p : Port) (b : Byte) (s : State) : QueuesKept s (bodyByte p b s) := by
  unfold bodyByte
  dsimp only
  split
  · split
    · exact .of_same rfl
    · exact (queuesKept_relayByte _ _ _ _).after rfl
  · exact queuesKept_frameEnd _ _ _ s

theorem queuesKept_delimit (p : Port) (x : LineEvent) (s : State) : QueuesKept s (delimit p x s) := by
  unfold delimit
  dsimp only
  split
  case h_1 => exact .of_same rfl
  case h_2 => exact (queuesKept_bucketAdd _ _ _).after rfl
  case h_3 => exact queuesKept_headerByte p _ s
  case h_5 => exact queuesKept_bodyByte p _ s
  all_goals exact queuesKept_frameEnd p _ _ s

theorem queuesKept_synchronise (p : Port) (x : LineEvent) (s : State) : QueuesKept s (synchronise p x s) := by
  unfold synchronise
  split
  · split
    · exact queuesKept_portSynced p s
    · exact .of_same rfl
  · exact .of_same rfl

theorem queuesKept_receive (p : Port) (x : LineEvent) (s : State) : QueuesKept s (receive p x s) := by
  have counted : (countCodeError p x s).queues = s.queues := by rw [countCodeError_eq]
  unfold receive
  split
  · exact .refl s
  · exact (queuesKept_synchronise p x _).after counted
  · exact (queuesKept_delimit p x _).after counted
  · exact .of_same counted

/-! ## Every command -/

theorem queuesKept_requestRow {f : Handler} (hf : f.QueueSafe) (code : Byte) (e : Envelope) (s : State) :
    ∃ t, requestRow f code e s = .next t ∧ QueuesKept s t :=
  exists_next_ite_of (fun _ => .refl s) fun _ => (queuesKept_agentRequest hf code e s).trans (queuesKept_settleRestart _)

theorem queuesKept_receiveRow (p : Port) (x : LineEvent) (s : State) : ∃ t, receiveRow p x s = .next t ∧ QueuesKept s t :=
  exists_next_ite_of (fun _ => .refl s) fun _ => (queuesKept_receive p x s).trans (queuesKept_settleRestart _)

theorem queuesKept_execLeaseExpiry (s : State) : ∃ t, execLeaseExpiry s = .next t ∧ QueuesKept s t := by
  unfold execLeaseExpiry
  split
  · exact ⟨s, rfl, .refl s⟩
  · exact exists_next_ite_of (fun _ => .refl s) fun _ => queuesKept_expireLease _ s

/-- Every command keeps the bounds of the queues. -/
theorem queuesKept_exec (c : Instr) (s : State) : ∃ t, exec c s = .next t ∧ QueuesKept s t := by
  have outOfReset {u : State} (hu : QueuesKept s u) :
      ∃ t, (if s.resetPin then .next s else .next u : Host.Outcome State Fault Refusal) = .next t ∧ QueuesKept s t :=
    exists_next_ite_of (fun _ => .refl s) fun _ => hu
  have guarded {g : Prop} [Decidable g] {u : State} (hu : QueuesKept s u) :
      ∃ t, (if g then .next u else .next s : Host.Outcome State Fault Refusal) = .next t ∧ QueuesKept s t :=
    exists_next_ite_of (fun _ => hu) fun _ => .refl s
  cases c with
  | resetAssert => exact ⟨_, rfl, .of_empty fun p => by cases p <;> rfl⟩
  | resetRelease straps => exact guarded (((queuesKept_releasePort .a _).trans (queuesKept_releasePort .b _)).after rfl)
  | signalPresent q => exact exists_next_ite_of (fun _ => (queuesKept_startSync q _).after rfl) fun _ => .of_same rfl
  | lossOfSignal q =>
    exact exists_next_ite_of (fun _ => ((queuesKept_loseSignal q _).trans (queuesKept_settleRestart _)).after rfl)
      fun _ => .of_same rfl
  | receiveSof | receiveDataByte | receiveEof | receiveAbort | receiveIdle | codeError => exact queuesKept_receiveRow _ _ s
  | coolDownExpiry q => exact guarded (queuesKept_coolDownEnd q s)
  | joinSettleExpiry => exact guarded (queuesKept_settleExpiry s)
  | throughFrameStart q => exact guarded (.of_same rfl)
  | transmitSymbol q => exact outOfReset ((queuesKept_transmit q s).trans (queuesKept_settleRestart _))
  | moveOutAnswer | moveOutMreply | moveOutNotice | moveOutAssign | moveOutBeacon =>
    exact ⟨_, rfl, queuesKept_moveOutFrom _ _ s⟩
  | tick1ms => exact outOfReset (queuesKept_takeTick1 s)
  | queueAgeOut q => exact outOfReset ((queuesKept_ageOut q s).trans (queuesKept_settleRestart _))
  | beaconExpiry n => exact guarded ((queuesKept_fireBeacon n _).after rfl)
  | tick10ms => exact outOfReset (queuesKept_takeTick10 s)
  | holdTimerExpiry n => exact outOfReset (queuesKept_lapse n s)
  | noticeRepeatExpiry => exact guarded ((queuesKept_offerNotice _).after rfl)
  | tick100ms => exact outOfReset (queuesKept_takeTick100 s)
  | leaseExpiry => exact queuesKept_execLeaseExpiry s
  | bankCopyAdvance => exact outOfReset (queuesKept_advanceCopy s)
  | bankCopyComplete => exact outOfReset (queuesKept_completeCopy s)
  | ident e ps => exact queuesKept_requestRow (queueSafe_ident ps) _ e s
  | claim e ps => exact queuesKept_requestRow (queueSafe_claim ps) _ e s
  | renounce e ps => exact queuesKept_requestRow (queueSafe_renounce ps) _ e s
  | settingsRead e ps => exact queuesKept_requestRow (queueSafe_settingsRead ps) _ e s
  | settingsWrite e ps => exact queuesKept_requestRow (queueSafe_settingsWrite ps) _ e s
  | entryRead e ps => exact queuesKept_requestRow (queueSafe_entryRead ps) _ e s
  | entryWrite e ps => exact queuesKept_requestRow (queueSafe_entryWrite ps) _ e s
  | entryClear e ps => exact queuesKept_requestRow (queueSafe_entryClear ps) _ e s
  | bankCopy e ps => exact queuesKept_requestRow (queueSafe_bankCopy ps) _ e s
  | bankSwap e ps => exact queuesKept_requestRow (queueSafe_bankSwap ps) _ e s
  | slotSetup e ps => exact queuesKept_requestRow (queueSafe_slotSetup ps) _ e s
  | slotLoad e ps => exact queuesKept_requestRow (queueSafe_slotLoad ps) _ e s
  | slotReadWithoutHold e slot => exact queuesKept_requestRow (queueSafe_slotReadPlain slot) _ e s
  | slotReadWithHold e slot => exact queuesKept_requestRow (queueSafe_slotReadHold slot) _ e s
  | slotRelease e ps => exact queuesKept_requestRow (queueSafe_slotRelease ps) _ e s
  | noticeAck e ps => exact queuesKept_requestRow (queueSafe_noticeAck ps) _ e s
  | statsReadWithoutClear e group => exact queuesKept_requestRow (queueSafe_statsPlain group) _ e s
  | statsReadWithClear e group => exact queuesKept_requestRow (queueSafe_statsClear group) _ e s
  | restart e ps => exact queuesKept_requestRow (queueSafe_restart ps) _ e s
  | unknownRequest e code ps => exact queuesKept_requestRow (queueSafe_handlerOf code ps) code e s
  | assign q n => exact outOfReset (queuesKept_assignEnd q n s)
  | restartBegin => exact guarded (queuesKept_restartBegin s)
  | timestampCounterAdvance => exact outOfReset (queuesKept_advanceTime s)

end

/-- Settles O54: every command keeps the bounds of the queues, whatever waits behind it. -/
theorem stepKeepsQueuesOk : Obligations.StepKeepsQueuesOk := by
  intro s t h ht
  rw [queuesOk_iff] at h ⊢
  refine step_keeps (P := fun u => QueuesBounded u.queues) (fun _ _ hu => hu) (fun c u v hu hnext => ?_) h ht
  obtain ⟨w, hw, kept⟩ := queuesKept_exec c u
  cases hw.symm.trans hnext
  exact kept hu

end Sys2Proof.Machine
end

section
/-! SUPPORT of the sessions' statements: what every operation keeps of the agent state (R141, R147, R150), of the hold list (R91)
and of what only an owner changes (R140, R146). Most operations touch nothing of it; the others are taken one by one. -/

namespace Sys2Proof.Machine

/-! ## What an owner sets up (R140) -/

/-- R140, R77: what a slot's setup and its load fix of the fields of its kind. -/
def SlotBody.setup : SlotBody → SlotBody
  | .unused => .unused
  | .capture _ => .capture .empty
  | .answer y => .answer { y with content := .none, age := 0 }
  | .beacon y => .beacon { y with seq := 0, timer := none }

/-- R140: a slot without what the line, the timers and the counters change of it. -/
def Slot.setup (x : Slot) : Slot := { x with count := 0, body := x.body.setup }

/-- The slot y is set up as x is, and is held if x is. -/
def Slot.Stands (x y : Slot) : Prop := y.setup = x.setup ∧ y.isHeld = x.isHeld

/-- R140: what only an owner changes of the part, and whether a copy runs. -/
def State.configuration (s : State) :
    Settings × (BankId × Half × Bool × CopyState) × (BankId → Fin 64 → Entry) × (Fin 32 → Slot) :=
  (s.settings, (s.engine.selector, s.engine.stagingGen, s.engine.incomplete, s.engine.copy),
    fun k i => (s.engine.bank k)[i].contents, fun n => s.slots[n].setup)

/-- What the sessions, the holds and the configuration stand in. -/
def State.managed (s : State) :
    Settings × MatchEngine × Vector Slot 32 × List (Fin 32) × Byte × Option Owner × List CacheEntry :=
  (s.settings, s.engine, s.slots, s.holdList, s.ownAddr, s.owner, s.cache)

/-- R147: what is asked of the reply cache. -/
def CacheOk (c : List CacheEntry) : Prop :=
  c.length ≤ 4 ∧ (c.map (fun x => x.manager)).Nodup ∧ ∀ x ∈ c, x.manager ≠ 255

/-- What an operation keeps: the bounds of the agent state and of the hold list and, where w holds and no copy runs, the
configuration. -/
structure Governed (w : Prop) (s t : State) : Prop where
  agent         : AgentOk s → AgentOk t
  holds         : HoldsOk s → HoldsOk t
  configuration : w → s.engine.copy = .idle → t.configuration = s.configuration

theorem AgentOk.cacheOk {s : State} (h : AgentOk s) : CacheOk s.cache := ⟨h.cacheBound, h.cacheDistinct, h.cacheManager⟩

theorem AgentOk.with_cache {s : State} (h : AgentOk s) {c : List CacheEntry} (hc : CacheOk c) :
    AgentOk { s with cache := c } := by
  obtain ⟨bound, distinct, manager⟩ := hc
  exact { h with cacheBound := bound, cacheDistinct := distinct, cacheManager := manager }

section
variable {s : State} {v : Vector Slot 32} {n : Fin 32}

theorem HoldsOk.with_slots (h : HoldsOk s) (hv : ∀ n : Fin 32, v[n].isHeld = s.slots[n].isHeld) :
    HoldsOk { s with slots := v } :=
  { h with held := fun n => by rw [hv n]; exact h.held n }

theorem Slot.getElem_set (v : Vector Slot 32) (n m : Fin 32) (x : Slot) : (v.set n x)[m] = if n = m then x else v[m] := by
  simp only [Fin.getElem_fin, Vector.getElem_set, Fin.ext_iff]

theorem Slot.isHeld_set_of_ne (v : Vector Slot 32) {n m : Fin 32} (x : Slot) (h : m ≠ n) :
    (v.set n x)[m].isHeld = v[m].isHeld := by
  rw [Slot.getElem_set, if_neg h.symm]

/-- R91: a slot that is no longer HELD leaves the hold list. -/
theorem HoldsOk.drop (h : HoldsOk s) {x : Slot} (hx : x.isHeld = false) :
    HoldsOk { s with slots := s.slots.set n x, holdList := s.holdList.filter (fun m => decide (m ≠ n)) } where
  bound := (List.length_filter_le _ _).trans h.bound
  distinct := h.distinct.filter _
  held m := by
    simp only [List.mem_filter, decide_eq_true_eq]
    by_cases hm : m = n
    · subst m
      simp [hx]
    · rw [Slot.isHeld_set_of_ne _ _ hm, ← h.held m]
      exact and_iff_left hm
  unowned ho := by simp [h.unowned ho]

/-- R91: a slot that becomes HELD joins the hold list. -/
theorem HoldsOk.join (h : HoldsOk s) (ho : s.owner ≠ none) (hroom : s.holdList.length < 4) (hn : s.slots[n].isHeld = false)
    {x : Slot} (hx : x.isHeld = true) : HoldsOk { s with slots := s.slots.set n x, holdList := s.holdList ++ [n] } where
  bound := by simpa using hroom
  distinct := by
    have fresh : n ∉ s.holdList := fun hmem => nomatch hn.symm.trans ((h.held n).mp hmem)
    exact h.distinct.append (List.nodup_singleton n) (List.disjoint_singleton.mpr fresh)
  held m := by
    rw [List.mem_append, List.mem_singleton]
    by_cases hm : m = n
    · subst m
      simp [hx]
    · rw [Slot.isHeld_set_of_ne _ _ hm, ← h.held m]
      exact or_iff_left hm
  unowned hnone := absurd hnone ho

end

/-! ## Operations one after another -/

namespace Governed

variable {w v : Prop} {s t u : State}

theorem refl (s : State) : Governed w s s := ⟨id, id, fun _ _ => rfl⟩

theorem imp (h : Governed w s t) (hv : v → w) : Governed v s t := ⟨h.agent, h.holds, fun hw => h.configuration (hv hw)⟩

theorem trans (h : Governed w s t) (k : Governed w t u) : Governed w s u where
  agent hs := k.agent (h.agent hs)
  holds hs := k.holds (h.holds hs)
  configuration hw hidle := by
    have first := h.configuration hw hidle
    have idle : t.engine.copy = .idle := (congrArg (fun c => c.2.1.2.2.2) first).trans hidle
    exact (k.configuration hw idle).trans first

theorem of_managed (h : t.managed = s.managed) : Governed w s t := by
  simp only [State.managed, Prod.mk.injEq] at h
  obtain ⟨settings, engine, slots, holdList, ownAddr, owner, cache⟩ := h
  refine ⟨fun hs => ?agent, fun hs => ?holds, fun _ _ => ?configuration⟩
  case agent =>
    exact ⟨cache ▸ hs.cacheBound, cache ▸ hs.cacheDistinct, cache ▸ hs.cacheManager, owner ▸ hs.ownerAddr,
      owner ▸ hs.ownerLease, ownAddr ▸ hs.ownAddr⟩
  case holds =>
    exact ⟨holdList ▸ hs.bound, holdList ▸ hs.distinct, by rw [holdList, slots]; exact hs.held,
      by rw [holdList, owner]; exact hs.unowned⟩
  case configuration => simp only [State.configuration, settings, engine, slots]

/-- What comes before in the event touches nothing that is managed. -/
theorem after (k : Governed w t u) (h : t.managed = s.managed) : Governed w s u := (of_managed h).trans k

theorem foldl {α : Type} {f : State → α → State} (hf : ∀ s a, Governed w s (f s a)) (l : List α) (s : State) :
    Governed w s (l.foldl f s) := by
  induction l generalizing s with
  | nil => exact refl s
  | cons a l ih => exact (hf s a).trans (ih _)

/-- An operation on the slots and the hold list. -/
theorem of_slots {x : Vector Slot 32} {l : List (Fin 32)} (hholds : HoldsOk s → HoldsOk { s with slots := x, holdList := l })
    (hsetup : w → ∀ n : Fin 32, x[n].setup = s.slots[n].setup) : Governed w s { s with slots := x, holdList := l } where
  agent hs := { hs with }
  holds := hholds
  configuration hw _ := by simp only [State.configuration, hsetup hw]

/-- Every slot stands, whatever else it counts or holds. -/
theorem of_standing {x : Vector Slot 32} (h : ∀ n : Fin 32, s.slots[n].Stands x[n]) : Governed w s { s with slots := x } :=
  of_slots (fun hs => hs.with_slots fun n => (h n).2) fun _ n => (h n).1

theorem of_mapVec {f : Slot → Slot} (h : ∀ x : Slot, x.Stands (f x)) : Governed w s { s with slots := mapVec f s.slots } :=
  of_standing fun n => by rw [getElem_mapVec]; exact h _

theorem setSlot {n : Fin 32} {x : Slot} (h : s.slots[n].Stands x) : Governed w s (s.setSlot n x) := by
  refine of_standing fun m => ?_
  rw [Slot.getElem_set]
  split
  · subst m
    exact h
  · exact ⟨rfl, rfl⟩

/-- An operation on the match engine. -/
theorem of_engine {m : MatchEngine} (h : w → s.engine.copy = .idle → { s with engine := m }.configuration = s.configuration) :
    Governed w s { s with engine := m } := ⟨fun hs => { hs with }, fun hs => { hs with }, h⟩

theorem of_cache {c : List CacheEntry} (h : CacheOk s.cache → CacheOk c) : Governed w s { s with cache := c } :=
  ⟨fun hs => hs.with_cache (h hs.cacheOk), fun hs => { hs with }, fun _ _ => rfl⟩

/-- R141: an owner's record within its bounds. -/
theorem of_owner {o : Owner} (haddr : AgentOk s → o.addr ≠ 0 ∧ o.addr ≠ 255)
    (hlease : AgentOk s → 1 ≤ o.lease ∧ o.lease ≤ 600) :
    Governed w s { s with owner := some o } where
  agent hs := { hs with
    ownerAddr := fun _ h => Option.some.inj h ▸ haddr hs
    ownerLease := fun _ h => Option.some.inj h ▸ hlease hs }
  holds hs := { hs with unowned := nofun }
  configuration _ _ := rfl

end Governed

/-! ## Operations that touch nothing that is managed -/

section
variable {s : State} {p : Port}

theorem place_managed (p : Port) (b : EntryBody) (s : State) : (place p b s).managed = s.managed := by
  rw [place_frame]
  rfl

theorem offerNotice_managed (s : State) : (offerNotice s).managed = s.managed := by
  rw [offerNotice_frame]
  rfl

theorem addEvent_managed (bit : BitVec 34) (s : State) : (addEvent bit s).managed = s.managed := by
  rw [addEvent_frame]
  rfl

theorem foldl_addEvent_managed (ps : List Port) (s : State) :
    (ps.foldl (fun t p => addEvent (portBit p) t) s).managed = s.managed := by
  induction ps generalizing s with
  | nil => rfl
  | cons p ps ih => exact (ih _).trans (addEvent_managed _ s)

theorem slotEvent_managed (n : Fin 32) (s : State) : (slotEvent n s).managed = s.managed := by
  rw [slotEvent_frame]
  rfl

theorem pollEnd_managed (p : Port) (cls : EndClass) (n : Fin 32) (g : Byte) (s : State) :
    (pollEnd p cls n g s).managed = s.managed := by
  rw [pollEnd_frame]
  rfl

theorem relayByte_managed (p : Port) (b : Byte) (payload : Bool) (s : State) : (relayByte p b payload s).managed = s.managed := by
  have taken (t : State) : (inboxByte p b payload t).managed = t.managed := by
    unfold inboxByte
    repeat' split
    all_goals rfl
  refine (taken _).trans ?_
  unfold pathByte
  split
  · rfl
  · dsimp only
    split <;> rfl

theorem pollTest_managed (p : Port) (h : Header) (n : Fin 32) (x : AnswerSlot) (s : State) :
    (pollTest p h n x s).1.managed = s.managed := by
  unfold pollTest reserve
  rw [place_frame]
  repeat' split
  all_goals rfl

theorem entryDecision_managed (p : Port) (h : Header) (i : Fin 64) (e : Entry) (s : State) :
    (entryDecision p h i e s).1.managed = s.managed := by
  unfold entryDecision
  split
  case h_7 =>
    split
    · rename_i n _ _ _ x _
      have tested := pollTest_managed p h n x s
      split
      all_goals
        rename_i hpoll
        rw [hpoll] at tested
        exact tested
    · rfl
  case h_1 | h_2 | h_3 => rfl
  all_goals split <;> rfl

theorem holdHeader_managed (p : Port) (h : Header) (now : Wide) (d : Decision) (s : State) :
    (holdHeader p h now d s).managed = s.managed := by
  unfold holdHeader
  dsimp only
  split <;> rfl

/-! ### The ports -/

theorem cutFrame_managed (p : Port) (s : State) : (cutFrame p s).managed = s.managed := by
  rw [cutFrame_frame]
  rfl

theorem leaveSynced_managed (ps : List Port) (s : State) : (leaveSynced ps s).managed = s.managed := by
  have cut : (ps.foldl (fun t p => cutFrame p t) s).managed = s.managed := by
    induction ps generalizing s with
    | nil => rfl
    | cons p ps ih => exact (ih _).trans (cutFrame_managed p s)
  rw [leaveSynced_eq, outOfLine_frame]
  exact cut

theorem enterFault_managed (ps : List Port) (s : State) : (enterFault ps s).managed = s.managed := by
  refine (foldl_addEvent_managed ps _).trans ((leaveSynced_managed ps _).trans ?_)
  rw [foldl_setFault_frame]
  rfl

theorem bucketAdd_managed (p : Port) (n : Nat) (s : State) : (bucketAdd p n s).managed = s.managed := by
  unfold bucketAdd
  split
  · rfl
  · split
    · exact enterFault_managed [p] s
    · rfl

theorem compareLimits_managed (s : State) : (compareLimits s).managed = s.managed := by
  unfold compareLimits
  split
  · rfl
  · exact enterFault_managed _ s

theorem joinCheck_managed (s : State) : (joinCheck s).managed = s.managed := by
  unfold joinCheck
  split <;> rfl

theorem startSync_managed (p : Port) (s : State) : (startSync p s).managed = s.managed := addEvent_managed _ _

theorem releasePort_managed (p : Port) (s : State) : (releasePort p s).managed = s.managed := by
  unfold releasePort
  split
  · exact startSync_managed p s
  · rfl

theorem coolDownEnd_managed (p : Port) (s : State) : (coolDownEnd p s).managed = s.managed := addEvent_managed _ _

theorem loseSignal_managed (p : Port) (s : State) : (loseSignal p s).managed = s.managed := by
  unfold loseSignal
  refine (addEvent_managed _ _).trans ?_
  split
  · exact leaveSynced_managed [p] _
  · rfl

theorem synchronise_managed (p : Port) (x : LineEvent) (s : State) : (synchronise p x s).managed = s.managed := by
  unfold synchronise
  split
  · split
    · exact (addEvent_managed _ _).trans (joinCheck_managed _)
    · rfl
  · rfl

/-! ### The outputs and the timers -/

theorem sendNext_managed (p : Port) (s : State) : (sendNext p s).managed = s.managed := by
  unfold sendNext sendPlace sendMark
  repeat' split
  all_goals rfl

theorem ageOut_managed (p : Port) (s : State) : (ageOut p s).managed = s.managed := by
  rw [ageOut_frame]
  rfl

theorem agedOut_managed (s : State) : (agedOut s).managed = s.managed := by
  rw [agedOut_frame]
  rfl

theorem tickCoolDown_managed (p : Port) (s : State) : (tickCoolDown p s).managed = s.managed := by
  rw [tickCoolDown_frame]
  rfl

theorem tickRepeat_managed (s : State) : (tickRepeat s).managed = s.managed := by
  rw [tickRepeat_frame]
  rfl

end

end Sys2Proof.Machine
end

section
/-! SUPPORT of the sessions' statements: what the holds, the owner, the ticks, the receivers and a copy keep of what is
managed. -/

namespace Sys2Proof.Machine

/-! ## What the slots' own operations keep -/

/-- R84: the capture slot is in state HELD. -/
def CaptureSlot.isHeld : CaptureSlot → Bool
  | .held _ _ _ _ => true
  | _ => false

section
variable {x : Slot}

theorem Slot.isHeld_of_capture {c : CaptureSlot} (h : x.body = .capture c) : x.isHeld = c.isHeld := by
  cases c <;> simp only [isHeld, h, CaptureSlot.isHeld]

theorem Slot.stands_of_body {y : Slot} (hnotify : y.notify = x.notify) (hgen : y.gen = x.gen)
    (hsetup : y.body.setup = x.body.setup) (hheld : y.isHeld = x.isHeld) : x.Stands y :=
  ⟨by simp only [Slot.setup, hnotify, hgen, hsetup], hheld⟩

/-- A CAPTURE slot's records and count are none of its setup. -/
theorem Slot.stands_capture {c e : CaptureSlot} (h : x.body = .capture c) {v : Slot} (hv : v.body = .capture e)
    (hheld : e.isHeld = c.isHeld) (hnotify : v.notify = x.notify) (hgen : v.gen = x.gen) : x.Stands v :=
  stands_of_body hnotify hgen (by simp [h, hv, SlotBody.setup])
    ((isHeld_of_capture hv).trans (hheld.trans (isHeld_of_capture h).symm))

/-- An ANSWER slot's payload and age are none of its setup. -/
theorem Slot.stands_answer {y z : AnswerSlot} (h : x.body = .answer y) {v : Slot} (hv : v.body = .answer z)
    (hlimit : z.maxAge = y.maxAge) (hnotify : v.notify = x.notify) (hgen : v.gen = x.gen) : x.Stands v :=
  stands_of_body hnotify hgen (by simp [h, hv, SlotBody.setup, hlimit]) (by simp [Slot.isHeld, h, hv])

/-- A BEACON slot's seq and timer are none of its setup. -/
theorem Slot.stands_beacon {y : BeaconSlot} (h : x.body = .beacon y) (seq : Byte) (timer : Option Nat) :
    x.Stands { x with body := .beacon { y with seq := seq, timer := timer } } :=
  stands_of_body rfl rfl (by simp [h, SlotBody.setup]) (by simp [Slot.isHeld, h])

theorem stands_startBeacon (x : Slot) : x.Stands (startBeacon x) := by
  unfold startBeacon
  split
  · exact Slot.stands_beacon ‹_› _ _
  · exact ⟨rfl, rfl⟩

theorem stands_startStoppedBeacon (x : Slot) : x.Stands (startStoppedBeacon x) := by
  unfold startStoppedBeacon
  split
  · split
    · exact stands_startBeacon x
    · exact ⟨rfl, rfl⟩
  · exact ⟨rfl, rfl⟩

theorem stands_stopBeacon (x : Slot) : x.Stands (stopBeacon x) := by
  unfold stopBeacon
  split
  · exact Slot.stands_beacon ‹_› _ _
  · exact ⟨rfl, rfl⟩

theorem stands_ageSlot (x : Slot) : x.Stands (ageSlot x) := by
  unfold ageSlot
  split
  · split
    · exact ⟨rfl, rfl⟩
    · rename_i hbody _
      exact Slot.stands_answer hbody rfl rfl rfl rfl
  · exact ⟨rfl, rfl⟩

theorem stands_countBeacon (x : Slot) : x.Stands (countBeacon x) := by
  unfold countBeacon
  split
  · split
    · exact ⟨rfl, rfl⟩
    · split
      · exact stands_startBeacon x
      · exact Slot.stands_beacon ‹_› _ _
  · exact ⟨rfl, rfl⟩

theorem stands_countLapse (x : Slot) : x.Stands (countLapse x) := by
  unfold countLapse
  split
  · split
    · exact ⟨rfl, rfl⟩
    · rename_i hbody _
      exact Slot.stands_capture hbody rfl rfl rfl rfl
  · exact ⟨rfl, rfl⟩

/-- R170: a restart empties a slot and leaves it set up. -/
theorem restartSlot_setup (x : Slot) : (restartSlot x).setup = x.setup ∧ (restartSlot x).isHeld = false := by
  unfold restartSlot
  split
  · simp [*, Slot.setup, SlotBody.setup, Slot.isHeld]
  · simp [*, Slot.setup, SlotBody.setup, Slot.isHeld]
  · split <;> simp [*, Slot.setup, SlotBody.setup, Slot.isHeld]
  · simp [*, Slot.setup, SlotBody.setup, Slot.isHeld]

end

/-! ## The lapse of holds (R94, R95) -/

/-- R94: what a slot's lapse leaves of it; a slot that is not HELD has no hold. -/
def Slot.lapsed (x : Slot) : Slot :=
  match x.body with
  | .capture (.held c o q _) => lapsedSlot c o q x
  | _ => x

theorem Slot.lapsed_of_held {x : Slot} {c : CapturedRecord} {o : Bool} {q : Option CapturedRecord} {k : Nat}
    (h : x.body = .capture (.held c o q k)) : x.lapsed = lapsedSlot c o q x := by
  simp only [lapsed, h]

theorem Slot.lapsed_of_not_held {x : Slot} (h : x.isHeld = false) : x.lapsed = x := by
  unfold lapsed
  split
  · rename_i hx
    simp [isHeld, hx] at h
  · rfl

theorem Slot.isHeld_iff {x : Slot} : x.isHeld = true ↔ ∃ c o q k, x.body = .capture (.held c o q k) := by
  unfold isHeld
  split <;> simp_all

theorem Slot.isHeld_lapsed (x : Slot) : x.lapsed.isHeld = false := by
  cases hx : x.isHeld
  · rw [lapsed_of_not_held hx]
    exact hx
  · obtain ⟨c, o, q, k, hbody⟩ := isHeld_iff.mp hx
    rw [lapsed_of_held hbody]
    cases q <;> rfl

theorem Slot.setup_lapsed (x : Slot) : x.lapsed.setup = x.setup := by
  cases hx : x.isHeld
  · rw [lapsed_of_not_held hx]
  · obtain ⟨c, o, q, k, hbody⟩ := isHeld_iff.mp hx
    rw [lapsed_of_held hbody]
    cases q <;> simp [lapsedSlot, setup, hbody, SlotBody.setup]

section
variable {w : Prop} {s : State}

theorem lapse_slots (n m : Fin 32) (s : State) : (lapse n s).slots[m] = if m = n then s.slots[m].lapsed else s.slots[m] := by
  split
  · subst m
    cases hheld : s.slots[n].isHeld
    · rw [lapse_of_isHeld_eq_false hheld, Slot.lapsed_of_not_held hheld]
    · obtain ⟨c, o, q, k, hbody⟩ := Slot.isHeld_iff.mp hheld
      rw [(lapse_of_body hbody).1, Slot.lapsed_of_held hbody]
  · exact lapse_slots_of_ne s ‹_›

/-- R95: of holds that lapse one after another each lapses once, however often it is named. -/
theorem foldl_lapse_slots (l : List (Fin 32)) (m : Fin 32) (s : State) :
    (l.foldl (fun t n => lapse n t) s).slots[m] = if m ∈ l then s.slots[m].lapsed else s.slots[m] := by
  induction l generalizing s with
  | nil => rfl
  | cons n l ih =>
    have again : s.slots[m].lapsed.lapsed = s.slots[m].lapsed := Slot.lapsed_of_not_held (Slot.isHeld_lapsed _)
    rw [List.foldl_cons, ih, lapse_slots]
    by_cases hn : m = n
    · subst hn
      simp only [if_true, again, List.mem_cons, true_or, ite_self]
    · simp [hn]

theorem governed_lapse (n : Fin 32) (s : State) : Governed w s (lapse n s) := by
  cases hheld : s.slots[n].isHeld
  · rw [lapse_of_isHeld_eq_false hheld]
    exact .refl s
  · obtain ⟨c, o, q, k, hbody⟩ := Slot.isHeld_iff.mp hheld
    rw [lapse_eq_slotEvent hbody, ← Slot.lapsed_of_held hbody]
    refine .trans (.of_slots (fun hs => hs.drop (Slot.isHeld_lapsed _)) fun _ m => ?_) (.of_managed (slotEvent_managed n _))
    rw [Slot.getElem_set]
    split
    · subst m
      exact Slot.setup_lapsed _
    · rfl

/-- R95, R146: the owner goes, and with it every hold on the hold list. -/
theorem clearOwner_slots (m : Fin 32) (s : State) :
    (clearOwner s).slots[m] = if m ∈ s.holdList then s.slots[m].lapsed else s.slots[m] := by
  rw [clearOwner_frame]
  exact foldl_lapse_slots s.holdList m { s with owner := none }

theorem governed_clearOwner (s : State) : Governed w s (clearOwner s) := by
  have slots (m : Fin 32) := clearOwner_slots m s
  rw [clearOwner_frame] at slots ⊢
  refine ⟨fun hs => ?agent, fun hs => ?holds, fun _ _ => ?configuration⟩
  case agent => exact { hs with ownerAddr := nofun, ownerLease := nofun }
  case holds =>
    refine ⟨Nat.zero_le 4, .nil, fun m => ⟨nofun, fun hm => ?_⟩, fun _ => rfl⟩
    rw [slots m] at hm
    split at hm
    · cases (Slot.isHeld_lapsed _).symm.trans hm
    · exact absurd ((hs.held m).mpr hm) ‹_›
  case configuration =>
    have setup (m : Fin 32) : (lapseAll { s with owner := none }).slots[m].setup = s.slots[m].setup := by
      refine (congrArg Slot.setup (slots m)).trans ?_
      split
      · exact Slot.setup_lapsed _
      · rfl
    simp only [State.configuration, setup]

theorem governed_setLatch (s : State) : Governed w s (setLatch s) := by
  have stopped : Governed w s { s with slots := mapVec stopBeacon s.slots } := .of_mapVec stands_stopBeacon
  unfold setLatch
  split
  · rw [relayToFallback_frame]
    exact stopped.trans (.of_managed rfl)
  · exact stopped.trans (.of_managed rfl)

theorem governed_expireLease (o : Owner) (s : State) : Governed w s (expireLease o s) := by
  unfold expireLease
  split
  · exact governed_clearOwner s
  · exact (governed_clearOwner s).trans (governed_setLatch _)

theorem governed_settleExpiry (s : State) : Governed w s (settleExpiry s) := by
  unfold settleExpiry
  split
  · rw [enterFallback_frame]
    exact .of_managed rfl
  · rw [enterRelay_frame]
    exact (Governed.of_mapVec stands_startStoppedBeacon).trans (.of_managed rfl)

/-! ## A frame's header and its end -/

/-- R86: a capture slot stays one, HELD or not. -/
theorem governed_captureCommit (n : Fin 32) (r : CapturedRecord) (s : State) : Governed w s (captureCommit n r s) := by
  have committed {v : Slot} (h : s.slots[n].Stands v) : Governed w s (slotEvent n (s.setSlot n v)) :=
    (Governed.setSlot h).trans (.of_managed (slotEvent_managed n _))
  unfold captureCommit
  split
  iterate 4
    rename_i hbody
    exact committed (Slot.stands_capture hbody rfl rfl rfl rfl)
  exact .refl s

theorem governed_learnCommit (n : Fin 32) (payload : List Byte) (aux : Byte) (s : State) :
    Governed w s (learnCommit n payload aux s) := by
  unfold learnCommit
  split
  · rename_i x hbody
    have learned : Governed w s (s.setSlot n { s.slots[n] with
        body := .answer { x with content := .learned payload, age := ageOfAux aux }, count := satInc s.slots[n].count }) :=
      .setSlot (Slot.stands_answer hbody rfl rfl rfl rfl)
    exact learned.trans (.of_managed (slotEvent_managed n _))
  · exact .refl s

theorem governed_endCommit (p : Port) (cls : EndClass) (f : InFlight) (s : State) : Governed w s (endCommit p cls f s) := by
  unfold endCommit
  split
  · split
    · exact .refl s
    · split
      · exact governed_captureCommit _ _ s
      · exact .refl s
    · exact .refl s
    · split
      · exact governed_learnCommit _ _ _ s
      · exact .refl s
  · exact .refl s

theorem governed_endVerdict (p : Port) (cls : EndClass) (f : InFlight) (s : State) : Governed w s (endVerdict p cls f s) := by
  unfold endVerdict
  split
  · exact (governed_endCommit p cls f _).after rfl
  · exact governed_endCommit p cls f s
  · split
    · exact .of_managed (pollEnd_managed p cls _ _ s)
    · exact .refl s
  all_goals exact .refl s

theorem governed_closeFlight (p : Port) (cls : EndClass) (s : State) : Governed w s (closeFlight p cls s) := by
  unfold closeFlight
  split
  · exact .refl s
  · exact (governed_endVerdict p cls _ s).trans (.of_managed rfl)

/-- R63: a hit is none of an entry's contents. -/
theorem MatchEngine.contents_hit (m : MatchEngine) (i j : Fin 64) (k : BankId) :
    ((m.hit i).bank k)[j].contents = (m.bank k)[j].contents := by
  rcases BankId.eq_or_eq_other m.selector k with rfl | rfl
  · rw [hit, bank_setBank_self, Bank.getElem_set]
    split
    · subst j
      rfl
    · rfl
  · rw [hit, bank_setBank_of_ne m _ m.selector.other_ne.symm]

theorem governed_hit (i : Fin 64) (s : State) : Governed w s { s with engine := s.engine.hit i } := by
  refine .of_engine fun _ _ => ?_
  simp only [State.configuration, MatchEngine.contents_hit]
  simp only [MatchEngine.hit, MatchEngine.setBank_selector,
    MatchEngine.setBank_stagingGen, MatchEngine.setBank_incomplete, MatchEngine.setBank_copy]

theorem governed_matchDecision (p : Port) (h : Header) (s : State) : Governed w s (matchDecision p h s).1 := by
  unfold matchDecision defaultDecision
  split
  · split <;> exact .of_managed rfl
  · exact (governed_hit _ s).trans (.of_managed (entryDecision_managed _ _ _ _ _))

theorem governed_decideHeader (p : Port) (h : Header) (s : State) : Governed w s (decideHeader p h s).1 := by
  have matched : Governed w s (if s.relay = .relay then matchDecision p h s else (s, plainDecision .forward .none)).1 := by
    split
    · exact governed_matchDecision p h s
    · exact .refl s
  unfold decideHeader mgmtDecision
  split
  · repeat' split
    all_goals exact .of_managed rfl
  · exact .refl s
  · exact .of_managed rfl
  · exact .of_managed rfl
  all_goals exact matched

theorem governed_headerReport (p : Port) (h : Header) (now : Wide) (s : State) : Governed w s (headerReport p h now s) := by
  unfold headerReport
  split
  · exact (governed_decideHeader p h s).trans (.of_managed (holdHeader_managed _ _ _ _ _))
  · unfold undecidedHeader
    split <;> exact .of_managed rfl

/-! ## A restart (R169, R170) -/

/-- R71: where no copy runs, a restart leaves the banks' contents, their generation and their mark. -/
theorem restartEngine_configuration {m : MatchEngine} (h : m.copy = .idle) :
    ((restartEngine m).stagingGen = m.stagingGen ∧ (restartEngine m).incomplete = m.incomplete)
    ∧ ∀ (k : BankId) (i : Fin 64), ((restartEngine m).bank k)[i].contents = (m.bank k)[i].contents := by
  refine ⟨?_, fun k i => ?_⟩
  · simp [restartEngine, MatchEngine.copying_eq_false h]
  · cases k <;> exact zeroHits_contents _ i

theorem governed_restartBegin (s : State) : Governed w s (restartBegin s) where
  agent hs := ⟨Nat.zero_le 4, .nil, nofun, nofun, nofun, hs.ownAddr⟩
  holds _ := ⟨Nat.zero_le 4, .nil, fun n => by
    rw [show (restartBegin s).slots[n] = restartSlot s.slots[n] from getElem_mapVec _ _ n, (restartSlot_setup _).2]
    exact ⟨nofun, nofun⟩, fun _ => rfl⟩
  configuration _ hidle := by
    obtain ⟨⟨gen, mark⟩, contents⟩ := restartEngine_configuration hidle
    have setup (n : Fin 32) : (mapVec restartSlot s.slots)[n].setup = s.slots[n].setup := by
      rw [getElem_mapVec]
      exact (restartSlot_setup _).1
    simp only [State.configuration, restartBegin, gen, mark, contents, setup, hidle]
    rfl

theorem governed_settleRestart (s : State) : Governed w s (settleRestart s) := by
  unfold settleRestart
  split
  · exact governed_restartBegin s
  · exact .refl s

/-! ## The outputs -/

/-- R132: a beacon's move-out advances its seq. -/
theorem governed_moveOut (p : Port) (x : QEntry) (rest : List QEntry) (s : State) : Governed w s (moveOut p x rest s) := by
  have started (b : EntryBody) (t : State) : Governed w t (startEntry p b t) := by
    cases b with
    | beacon n =>
      simp only [startEntry, moveBeacon]
      split
      · exact (Governed.setSlot (Slot.stands_beacon ‹_› _ _)).trans (.of_managed rfl)
      · exact .of_managed rfl
    | _ => exact .of_managed rfl
  unfold moveOut
  rw [countInjected_frame]
  refine .trans (t := startEntry p x.body (s.setQueue p { s.queues.get p with entries := rest })) ?_ (.of_managed rfl)
  exact (started _ _).after rfl

theorem governed_moveOutFrom (x : Source) (p : Port) (s : State) : Governed w s (moveOutFrom x p s) := by
  unfold moveOutFrom
  split
  · split
    · split
      · exact governed_moveOut p _ _ s
      · exact .refl s
    · exact .refl s
  · exact .refl s

theorem governed_transmit (p : Port) (s : State) : Governed w s (transmit p s) := by
  have arbitrated : Governed w s (arbitrate p s) := by
    unfold arbitrate
    split
    · exact .of_managed rfl
    · split
      · split
        · exact governed_moveOut p _ _ s
        · exact .refl s
      · exact .refl s
  have relayed := arbitrated.trans (.of_managed (sendNext_managed p _))
  unfold transmit
  split
  · unfold sendInBypass
    dsimp only
    split <;> exact .of_managed rfl
  · exact .of_managed (sendNext_managed p s)
  · exact relayed
  · exact relayed

/-! ## The ticks and the timers -/

theorem governed_fireBeacon (n : Fin 32) (s : State) : Governed w s (fireBeacon n s) := by
  have expired (t : State) (p : Port) : Governed w t (expireOn n p t) := by
    have counted : Governed w t (t.setSlot n { t.slots[n] with count := satInc t.slots[n].count }) := .setSlot ⟨rfl, rfl⟩
    unfold expireOn
    split
    · exact .of_managed (place_managed _ _ t)
    · exact counted.trans (.of_managed (slotEvent_managed n _))
  unfold fireBeacon
  split
  · exact .foldl expired _ s
  · exact .refl s

theorem governed_fireBeacons (c : Nat) (due : List (Fin 32)) (s : State) : Governed w s (fireBeacons c due s) :=
  .foldl (fun t n => governed_fireBeacon n t) _ s

theorem governed_tick1ms (s : State) : Governed w s (tick1ms s) := by
  refine tick1ms_stages (P := Governed w s) (Q := Governed w s) ?start (fun t k h => h.trans (.of_managed rfl))
    (fun c due t h => h.trans (governed_fireBeacons c due t)) (fun t h => h.trans ?settle)
    (fun t h => h.trans (.of_managed (agedOut_managed t))) (fun c due t h => h.trans (governed_fireBeacons c due t))
  case start =>
    have counted : Governed w s { s with slots := mapVec (fun x => countBeacon (ageSlot x)) s.slots } := .of_mapVec fun x =>
      ⟨(stands_countBeacon _).1.trans (stands_ageSlot x).1, (stands_countBeacon _).2.trans (stands_ageSlot x).2⟩
    exact counted.trans (.of_managed ((tickCoolDown_managed .b _).trans (tickCoolDown_managed .a _)))
  case settle =>
    unfold tickSettle
    split
    · exact .refl t
    · split
      · exact governed_settleExpiry t
      · exact .of_managed rfl

theorem governed_takeTick1 (s : State) : Governed w s (takeTick1 s) := by
  unfold takeTick1
  split
  · exact ((governed_tick1ms _).trans (governed_settleRestart _)).after rfl
  · exact .refl s

theorem governed_takeTick10 (s : State) : Governed w s (takeTick10 s) := by
  have counted (t : State) : Governed w t (tickHolds t) :=
    .trans (.of_mapVec stands_countLapse) (.foldl (fun u n => governed_lapse n u) _ _)
  unfold takeTick10
  split
  · exact ((counted _).trans (.of_managed ((offerNotice_managed _).trans (tickRepeat_managed _)))).after rfl
  · exact .refl s

/-- R143: a lease that does not run out falls by 1. -/
theorem governed_takeTick100 (s : State) : Governed w s (takeTick100 s) := by
  unfold takeTick100 tick100ms
  split
  · dsimp only
    split
    · exact .of_managed rfl
    · rename_i o ho
      split
      · exact (governed_expireLease _ _).after rfl
      · refine Governed.after (t := { s with due := { s.due with hundred := false } })
          (.of_owner (fun hs => hs.ownerAddr o ho) fun hs => ?_) rfl
        have bound := (hs.ownerLease o ho).2
        dsimp only
        omega
  · exact .refl s

theorem governed_advanceTime (s : State) : Governed w s (advanceTime s) :=
  ((governed_takeTick1 s).trans (governed_takeTick10 _)).trans ((governed_takeTick100 _).trans (.of_managed rfl))

/-! ## A running copy -/

theorem cacheOk_completeCache (manager seq : Byte) (payload : List Byte) {c : List CacheEntry} (h : CacheOk c) :
    CacheOk (completeCache manager seq payload c) := by
  obtain ⟨bound, distinct, other⟩ := h
  have managers : (completeCache manager seq payload c).map (fun x => x.manager) = c.map (fun x => x.manager) := by
    rw [completeCache, List.map_map]
    refine List.map_congr_left fun x _ => ?_
    dsimp only [Function.comp]
    split <;> rfl
  refine ⟨by simpa [completeCache] using bound, managers ▸ distinct, fun x hx => ?_⟩
  obtain ⟨y, hy, hyx⟩ := List.mem_map.mp (managers ▸ List.mem_map_of_mem hx)
  exact hyx ▸ other y hy

theorem governed_completeCopy (s : State) : Governed w s (completeCopy s) := by
  cases hcopy : s.engine.copy with
  | idle =>
    rw [completeCopy_of_idle hcopy]
    exact .refl s
  | running k p manager seq =>
    rw [completeCopy_of_running hcopy]
    have finished : Governed w s { s with engine := s.engine.finishCopy } :=
      .of_engine fun _ hidle => nomatch hcopy.symm.trans hidle
    have recorded : Governed w s { s with
        engine := s.engine.finishCopy, cache := completeCache manager seq (copyReply s.engine) s.cache } :=
      finished.trans (.of_cache (cacheOk_completeCache _ _ _))
    exact recorded.trans (.of_managed rfl)

theorem governed_advanceCopy (s : State) : Governed w s (advanceCopy s) := by
  unfold advanceCopy
  split
  · exact .refl s
  · rename_i hcopy
    have advanced (m : MatchEngine) : Governed w s { s with engine := m } :=
      .of_engine fun _ hidle => nomatch hcopy.symm.trans hidle
    split
    · dsimp only
      split
      · exact (advanced _).trans (governed_completeCopy _)
      · exact advanced _
    · exact governed_completeCopy s

end

end Sys2Proof.Machine
end

section
/-! SUPPORT and proofs of what every command keeps of the sessions, the holds and an owner's configuration (O55, O58):
the requests, the agent, the receivers, and every command by its row. -/

namespace Sys2Proof.Machine

/-! ## Requests (R137, R140) -/

/-- A request from a manager address whose run keeps what is managed: if it is owner-only, its run on a part with an owner; and
whose aftermath touches nothing of it. -/
structure Handler.Governs (f : Handler) : Prop where
  run   : ∀ e s, e.src ≠ 255 → (f.ownerOnly = true → s.owner ≠ none) → Governed (f.ownerOnly = false) s (f.run e s).1
  after : ∀ a s, (f.after a s).managed = s.managed

section
variable {f : Handler} {s : State}

/-- A request open to any manager that changes nothing. -/
theorem Handler.Governs.of_read (hrun : ∀ e s, (f.run e s).1 = s) (hafter : f.after = noAfter) : f.Governs :=
  ⟨fun e s _ _ => .of_managed (congrArg State.managed (hrun e s)), fun a s => by rw [hafter]; rfl⟩

/-- R140: an owner-only request may change the configuration. -/
theorem Handler.Governs.of_owned (howner : f.ownerOnly = true)
    (hrun : ∀ e s, s.owner ≠ none → Governed False s (f.run e s).1)
    (hafter : ∀ a s, (f.after a s).managed = s.managed) : f.Governs :=
  ⟨fun e s _ ho => (hrun e s (ho howner)).imp fun hnot => Bool.noConfusion (howner.symm.trans hnot), hafter⟩

theorem noAfter_managed (a : Answer) (s : State) : (noAfter a s).managed = s.managed := rfl

theorem governs_ident (ps : List Byte) : (identHandler ps).Governs := .of_read (fun _ _ => rfl) rfl

/-- R142, R31: a grant names a manager 1..254 with a lease of 1..600 and restarts beacon timers. -/
theorem governed_grant {w : Prop} {e : Envelope} {lease : Half} (hsrc : e.src ≠ 0 ∧ e.src ≠ 255) (hlease : lease ≠ 0)
    (hmost : lease.toNat ≤ 600) (policy : Policy) (s : State) : Governed w s (grant e lease policy s) := by
  have timers : Governed w s { s with slots := (clearLatch s).slots } := by
    refine .of_standing fun n => ?_
    dsimp only [clearLatch]
    split
    · rw [getElem_mapVec]
      exact stands_startBeacon _
    · split
      · rw [getElem_mapVec]
        exact stands_startStoppedBeacon _
      · exact ⟨rfl, rfl⟩
  have least : 1 ≤ lease.toNat := Nat.one_le_iff_ne_zero.mpr fun h0 => hlease (BitVec.eq_of_toNat_eq h0)
  have granted : Governed w s { s with
      slots := (clearLatch s).slots
      owner := some { addr := e.src, lease := lease.toNat, policy := policy, port := e.port } } :=
    timers.trans (.of_owner (fun _ => hsrc) fun _ => ⟨least, hmost⟩)
  exact granted.trans (.of_managed rfl)

theorem governs_claim (ps : List Byte) : (claimHandler ps).Governs where
  run e s hsrc _ := by
    have refused (a : Answer) : Governed ((claimHandler ps).ownerOnly = false) s (s, a).1 := .refl s
    dsimp only [claimHandler, runClaim]
    split
    · exact refused _
    · split
      · exact refused _
      · rename_i hvalues
        obtain ⟨hlease, hmost, hzero⟩ : _ ∧ _ ∧ _ := by simpa only [not_or, not_lt] using hvalues
        have granted (k : Policy) := governed_grant (w := (claimHandler ps).ownerOnly = false) ⟨hzero, hsrc⟩ hlease hmost k s
        split
        · split
          · exact granted _
          · exact refused _
        · exact granted _
  after a s := by
    dsimp only [claimHandler]
    split
    · exact offerNotice_managed s
    · rfl

theorem governs_renounce (ps : List Byte) : (renounceHandler ps).Governs :=
  .of_owned rfl (fun _ s _ => governed_clearOwner s) noAfter_managed

theorem governs_settingsRead (ps : List Byte) : (settingsReadHandler ps).Governs := .of_read (fun _ _ => rfl) rfl

theorem governs_settingsWrite (ps : List Byte) : (settingsWriteHandler ps).Governs := by
  refine .of_owned rfl (fun e s _ => ?run) fun a s => ?after
  case run =>
    dsimp only [settingsWriteHandler, runSettingsWrite]
    split
    · exact ⟨fun hs => { hs with }, fun hs => { hs with }, nofun⟩
    · exact .refl s
  case after =>
    dsimp only [settingsWriteHandler]
    split
    · exact compareLimits_managed s
    · rfl

theorem governs_entryRead (ps : List Byte) : (entryReadHandler ps).Governs := by
  refine .of_read (fun e s => ?_) rfl
  dsimp only [entryReadHandler, runEntryRead]
  repeat' split
  all_goals rfl

/-- R140: an owner's request that changes the match engine alone, if anything. -/
theorem Handler.Governs.of_engine (howner : f.ownerOnly = true) (hrun : ∀ e s, ∃ m, (f.run e s).1 = { s with engine := m })
    (hafter : f.after = noAfter) : f.Governs := by
  refine .of_owned howner (fun e s _ => ?_) fun a s => by rw [hafter]; rfl
  obtain ⟨m, hm⟩ := hrun e s
  rw [hm]
  exact .of_engine nofun

theorem governs_entryWrite (ps : List Byte) : (entryWriteHandler ps).Governs := by
  refine .of_engine rfl (fun e s => ?_) rfl
  dsimp only [entryWriteHandler, runEntryWrite]
  repeat' split
  all_goals exact ⟨_, rfl⟩

theorem governs_entryClear (ps : List Byte) : (entryClearHandler ps).Governs := by
  refine .of_engine rfl (fun e s => ?_) rfl
  dsimp only [entryClearHandler, runEntryClear]
  repeat' split
  all_goals exact ⟨_, rfl⟩

theorem governs_bankSwap (ps : List Byte) : (bankSwapHandler ps).Governs := by
  refine .of_engine rfl (fun e s => ?_) rfl
  dsimp only [bankSwapHandler, runBankSwap]
  repeat' split
  all_goals exact ⟨_, rfl⟩

theorem governs_bankCopy (ps : List Byte) : (bankCopyHandler ps).Governs := by
  refine .of_owned rfl (fun e s _ => ?_) noAfter_managed
  have started (m : MatchEngine) : Governed False s { s with engine := m } := .of_engine nofun
  dsimp only [bankCopyHandler, runBankCopy]
  split
  · exact .refl s
  · exact (started _).trans (.of_managed rfl)

/-- R160: a setup leaves no slot HELD. -/
theorem setupBody_isHeld {latch : Bool} {ps : List Byte} {body : SlotBody} (h : setupBody latch ps = some body) (notify : Bool)
    (gen : Byte) : Slot.isHeld { notify := notify, gen := gen, count := 0, body := body } = false := by
  unfold setupBody at h
  split at h
  · cases h
    rfl
  · split at h
    · cases h
      rfl
    · split at h
      · cases h
        rfl
      · split at h
        · split at h
          · cases h
          · split at h
            · cases h
            · cases h
              rfl
        · cases h

theorem governs_slotSetup (ps : List Byte) : (slotSetupHandler ps).Governs := by
  refine .of_owned rfl (fun e s _ => ?_) noAfter_managed
  dsimp only [slotSetupHandler, runSlotSetup]
  split
  · exact .refl s
  · split
    · exact .refl s
    · split
      · exact .refl s
      · rename_i hbody
        exact (Governed.of_slots (fun hs => hs.drop (setupBody_isHeld hbody _ _)) nofun).trans (.of_managed rfl)

/-- R103, R129: a load is for a slot that can hold no capture. -/
theorem governs_slotLoad (ps : List Byte) : (slotLoadHandler ps).Governs := by
  refine .of_owned rfl (fun e s _ => ?_) noAfter_managed
  have loaded {n : Fin 32} {x : Slot} (h : x.isHeld = s.slots[n].isHeld) : Governed False s (s.setSlot n x) := by
    refine .of_slots (fun hs => hs.with_slots fun m => ?_) nofun
    rw [Slot.getElem_set]
    split
    · subst m
      exact h
    · rfl
  dsimp only [slotLoadHandler, runSlotLoad]
  split
  · exact .refl s
  · split
    · exact .refl s
    · split
      · exact .refl s
      · exact .refl s
      all_goals
        rename_i hbody
        exact loaded (by rw [Slot.isHeld, Slot.isHeld, hbody])

theorem governs_slotReadPlain (slot : Byte) : (slotReadPlainHandler slot).Governs := by
  refine .of_read (fun e s => ?_) rfl
  dsimp only [slotReadPlainHandler, runReadPlain]
  split <;> rfl

/-- R89, R90, R91: a hold is placed while fewer than 4 stand. -/
theorem governs_slotReadHold (slot : Byte) : (slotReadHoldHandler slot).Governs := by
  refine .of_owned rfl (fun e s ho => ?_) noAfter_managed
  dsimp only [slotReadHoldHandler, runReadHold]
  split
  · exact .refl s
  · split
    · exact .refl s
    · rename_i hbody
      exact .setSlot (Slot.stands_capture hbody rfl rfl rfl rfl)
    · rename_i hbody
      split
      · exact .refl s
      · rename_i hroom
        exact .of_slots (fun hs => hs.join ho (not_le.mp hroom) (Slot.isHeld_of_capture hbody) rfl) nofun
    · exact .refl s

theorem governs_slotRelease (ps : List Byte) : (slotReleaseHandler ps).Governs := by
  refine .of_owned rfl (fun e s _ => ?_) noAfter_managed
  have released (q : Option CapturedRecord) (x : Slot) : Slot.isHeld { x with body := .capture (releasedBody q) } = false := by
    cases q <;> rfl
  dsimp only [slotReleaseHandler, runSlotRelease]
  split
  · exact .refl s
  · split
    · exact .of_slots (fun hs => hs.drop (released _ _)) nofun
    · exact .refl s
    · exact .refl s

theorem governs_noticeAck (ps : List Byte) : (noticeAckHandler ps).Governs := by
  refine .of_owned rfl (fun e s _ => ?_) noAfter_managed
  dsimp only [noticeAckHandler, runNoticeAck]
  split <;> exact .of_managed rfl

theorem governs_statsPlain (group : Byte) : (statsPlainHandler group).Governs := by
  refine .of_read (fun e s => ?_) rfl
  dsimp only [statsPlainHandler, runStats]
  split <;> rfl

/-- R166: a slot's count is none of its setup. -/
theorem stands_clearCounts (lo hi : Nat) (v : Vector Slot 32) (m : Fin 32) : v[m].Stands (clearCounts lo hi v)[m] := by
  unfold clearCounts
  induction allSlots generalizing v with
  | nil => exact ⟨rfl, rfl⟩
  | cons n l ih =>
    have first : v[m].Stands (if lo ≤ n.val ∧ n.val < hi then v.set n { v[n] with count := 0 } else v)[m] := by
      split
      · rw [Slot.getElem_set]
        split
        · subst m
          exact ⟨rfl, rfl⟩
        · exact ⟨rfl, rfl⟩
      · exact ⟨rfl, rfl⟩
    obtain ⟨setup, held⟩ := ih (if lo ≤ n.val ∧ n.val < hi then v.set n { v[n] with count := 0 } else v)
    exact ⟨setup.trans first.1, held.trans first.2⟩

theorem governs_statsClear (group : Byte) : (statsClearHandler group).Governs := by
  refine .of_owned rfl (fun e s _ => ?_) noAfter_managed
  dsimp only [statsClearHandler, runStats]
  split
  · exact .refl s
  · rename_i g _
    cases g with
    | slots0 | slots1 => exact .of_standing (stands_clearCounts _ _ _)
    | _ => exact .of_managed rfl

theorem governs_restart (ps : List Byte) : (restartHandler ps).Governs :=
  .of_owned rfl (fun _ _ _ => .of_managed rfl) noAfter_managed

theorem governs_refused (st : Status) : (refusedHandler st).Governs := .of_read (fun _ _ => rfl) rfl

theorem governs_select {f g : Byte → Handler} (hf : ∀ x, (f x).Governs) (hg : ∀ x, (g x).Governs) (ps : List Byte) :
    (selectHandler f g ps).Governs := by
  unfold selectHandler
  split
  · split
    · exact hf _
    · split
      · exact hg _
      · exact governs_refused _
  · exact governs_refused _

theorem Handler.Governs.ite {c : Prop} [Decidable c] {f g : Handler} (hf : f.Governs) (hg : g.Governs) :
    (if c then f else g).Governs := by
  split
  · exact hf
  · exact hg

/-- Whatever a request's payload says, the request it stands for keeps what is managed. -/
theorem governs_handlerOf (code : Byte) (ps : List Byte) : (handlerOf code ps).Governs :=
  .ite (governs_ident ps) <|
  .ite (governs_claim ps) <|
  .ite (governs_renounce ps) <|
  .ite (governs_settingsRead ps) <|
  .ite (governs_settingsWrite ps) <|
  .ite (governs_entryRead ps) <|
  .ite (governs_entryWrite ps) <|
  .ite (governs_entryClear ps) <|
  .ite (governs_bankCopy ps) <|
  .ite (governs_bankSwap ps) <|
  .ite (governs_slotSetup ps) <|
  .ite (governs_slotLoad ps) <|
  .ite (governs_select governs_slotReadPlain governs_slotReadHold ps) <|
  .ite (governs_slotRelease ps) <|
  .ite (governs_noticeAck ps) <|
  .ite (governs_select governs_statsPlain governs_statsClear ps) <|
  .ite (governs_restart ps) <|
  governs_refused _

end

/-! ## The agent (R135, R137, R149) -/

section
variable {w : Prop} {s : State}

/-- R147: an entry at the front of a cache without another of its manager. -/
theorem cacheOk_cons {x : CacheEntry} {c l : List CacheEntry} (h : CacheOk c) (hx : x.manager ≠ 255)
    (hl : l.Sublist (c.filter (fun y => decide (y.manager ≠ x.manager)))) (hlength : l.length ≤ 3) : CacheOk (x :: l) := by
  obtain ⟨-, distinct, other⟩ := h
  have within : l.Sublist c := hl.trans List.filter_sublist
  refine ⟨Nat.succ_le_succ hlength, List.nodup_cons.mpr ⟨fun hmem => ?_, (within.map _).nodup distinct⟩, fun y hy => ?_⟩
  · obtain ⟨y, hy, same⟩ := List.mem_map.mp hmem
    simpa [same] using List.mem_filter.mp (hl.subset hy)
  · rcases List.mem_cons.mp hy with rfl | hy
    · exact hx
    · exact other y (within.subset hy)

theorem cacheOk_recordCache {manager : Byte} (hmanager : manager ≠ 255) (seq : Byte) (reply : Option (List Byte))
    {c : List CacheEntry} (h : CacheOk c) : CacheOk (recordCache manager seq reply c) :=
  cacheOk_cons (x := { manager := manager, seq := seq, reply := reply }) h hmanager (List.take_sublist _ _)
    (List.length_take_le _ _)

theorem cacheOk_refreshCache {x : CacheEntry} {c : List CacheEntry} (hx : x ∈ c) (h : CacheOk c) :
    CacheOk (refreshCache x c) := by
  have fewer : (c.filter (fun y => decide (y.manager ≠ x.manager))).length < c.length :=
    List.length_filter_lt_length_iff_exists.mpr ⟨x, hx, by simp⟩
  exact cacheOk_cons h (h.2.2 x hx) (List.Sublist.refl _) (by have := h.1; omega)

theorem governed_finishRequest {e : Envelope} (hsrc : e.src ≠ 255) (code : Byte) (a : Answer) (s : State) :
    Governed w s (finishRequest e code a s) := by
  have counted (st : Status) (t : State) : (countAnswer st t).managed = t.managed := by
    rw [countAnswer_eq]
    rfl
  have recorded (reply : Option (List Byte)) (t : State) : Governed w t (recordRequest e reply t) := by
    unfold recordRequest
    split
    · exact .refl t
    · exact .of_cache (cacheOk_recordCache hsrc _ _)
  cases a with
  | reply => exact ((recorded _ _).after (place_managed _ _ s)).trans (.of_managed (counted _ _))
  | copyStarted => exact (recorded _ s).trans (.of_managed (counted _ _))

theorem governed_duplicate {e : Envelope} {x : CacheEntry} (hx : cachedEntry e s = some x) :
    Governed w s (duplicate e x s) := by
  have refreshed : Governed w s { s with cache := refreshCache x s.cache } :=
    .of_cache (cacheOk_refreshCache (List.mem_of_find?_eq_some hx))
  unfold duplicate
  dsimp only
  split
  · exact refreshed.trans (.of_managed rfl)
  · split
    · exact refreshed.trans (.of_managed (place_managed _ _ _))
    · exact refreshed.trans (.of_managed rfl)

/-- R140: an owner-only request runs on a part with an owner alone. -/
theorem runRequest_owned (f : Handler) (e : Envelope) (s : State) :
    (runRequest f e s).1 = s ∨ runRequest f e s = f.run e s ∧ (f.ownerOnly = true → s.owner ≠ none) := by
  unfold runRequest
  split
  · exact .inl rfl
  · split
    · exact .inl rfl
    · rename_i hpass
      refine .inr ⟨rfl, fun howner hnone => ?_⟩
      rw [howner, ownershipRefusal_of_unowned hnone] at hpass
      cases hpass

theorem governed_examine {f : Handler} (hf : f.Governs) (code : Byte) {e : Envelope} (hsrc : e.src ≠ 255) (s : State) :
    Governed (s.owner = none) s (examine f code e s) := by
  have ran : Governed (s.owner = none) s (runRequest f e s).1 := by
    rcases runRequest_owned f e s with hs | ⟨hs, ho⟩
    · rw [hs]
      exact .refl s
    · rw [hs]
      exact (hf.run e s hsrc ho).imp fun hnone => Bool.eq_false_iff.mpr fun howner => ho howner hnone
  unfold examine
  split
  · rename_i hcached
    split at hcached
    · cases hcached
    · exact governed_duplicate hcached
  · split
    · exact (ran.trans (governed_finishRequest hsrc code _ _)).trans (.of_managed (hf.after _ _))
    · exact .of_managed rfl

theorem governed_agentRequest {f : Handler} (hf : f.Governs) (code : Byte) (e : Envelope) (s : State) :
    Governed (s.owner = none) s (agentRequest f code e s) := by
  unfold agentRequest
  split
  · exact .refl s
  · split
    · exact .of_managed rfl
    · split
      · exact .of_managed rfl
      · exact governed_examine hf code ‹_› s

/-- R150: 255 never becomes the own address. -/
theorem governed_assignEnd (p : Port) (n : Byte) (s : State) : Governed w s (assignEnd p n s) := by
  have offered (q : Port) (b : Byte) (t : State) : (offerAssign q b t).managed = t.managed := by
    unfold offerAssign
    split
    · rfl
    · split
      · exact place_managed _ _ t
      · rfl
  unfold assignEnd
  split
  · split
    · exact .of_managed (offered _ _ s)
    · rename_i hn
      have named : Governed w s { s with ownAddr := n } :=
        ⟨fun hs => { hs with ownAddr := fun h => hn (.inr h) }, fun hs => { hs with }, fun _ _ => rfl⟩
      exact named.trans (.of_managed (offered _ _ _))
  · exact .of_managed rfl

theorem governed_agentEnd (p : Port) (cls : EndClass) (s : State) : Governed (s.owner = none) s (agentEnd p cls s) := by
  unfold agentEnd
  split
  · exact .refl s
  · split
    · split
      · exact (governed_agentRequest (governs_handlerOf _ _) _ _ (s.setInbox p none)).after rfl
      · exact (governed_assignEnd p _ _).after rfl
      · exact .of_managed rfl
    · exact .of_managed rfl

/-! ## The receivers -/

theorem governed_frameEnd (p : Port) (cls : EndClass) (x : LineEvent) (s : State) :
    Governed (s.owner = none) s (frameEnd p cls x s) := by
  have closed : Governed (s.owner = none) s
      (closeFlight p cls (countEnd p cls (s.setRx p (rxAfterEnd s.timestamp x (s.rx.get p))))) :=
    (governed_closeFlight p cls _).after (by rw [countEnd_eq]; rfl)
  have owner : (closeFlight p cls (countEnd p cls (s.setRx p (rxAfterEnd s.timestamp x (s.rx.get p))))).owner = s.owner := by
    rw [closeFlight_frame, countEnd_eq]
    rfl
  exact (closed.trans ((governed_agentEnd p cls _).imp owner.trans)).trans
    (.of_managed ((joinCheck_managed _).trans (bucketAdd_managed _ _ _)))

theorem governed_headerByte (p : Port) (b : Byte) (s : State) : Governed (s.owner = none) s (headerByte p b s) := by
  have ended (cls : EndClass) (x : LineEvent) {t : State} (ht : t.managed = s.managed) (ho : t.owner = s.owner) :
      Governed (s.owner = none) s (frameEnd p cls x t) := ((governed_frameEnd p cls x t).imp ho.trans).after ht
  unfold headerByte
  dsimp only
  split
  · exact .of_managed rfl
  · split
    · split
      · exact .of_managed rfl
      · exact (governed_headerReport _ _ _ _).after rfl
    · split
      · exact ended _ _ rfl rfl
      · exact ended _ _ (by rw [lengthAtHeader_frame]; rfl) (by rw [lengthAtHeader_frame]; rfl)

theorem governed_bodyByte (p : Port) (b : Byte) (s : State) : Governed (s.owner = none) s (bodyByte p b s) := by
  unfold bodyByte
  dsimp only
  split
  · split
    · exact .of_managed rfl
    · exact .of_managed (relayByte_managed _ _ _ _)
  · exact governed_frameEnd _ _ _ s

theorem governed_delimit (p : Port) (x : LineEvent) (s : State) : Governed (s.owner = none) s (delimit p x s) := by
  unfold delimit
  dsimp only
  split
  case h_1 => exact .of_managed rfl
  case h_2 => exact .of_managed (bucketAdd_managed _ _ _)
  case h_3 => exact governed_headerByte p _ s
  case h_5 => exact governed_bodyByte p _ s
  all_goals exact governed_frameEnd p _ _ s

theorem governed_receive (p : Port) (x : LineEvent) (s : State) : Governed (s.owner = none) s (receive p x s) := by
  have counted : (countCodeError p x s).managed = s.managed ∧ (countCodeError p x s).owner = s.owner := by
    rw [countCodeError_eq]
    exact ⟨rfl, rfl⟩
  unfold receive
  split
  · exact .refl s
  · exact .of_managed ((synchronise_managed p x _).trans counted.1)
  · exact ((governed_delimit p x _).imp counted.2.trans).after counted.1
  · exact .of_managed counted.1

/-! ## Every command -/

theorem governed_requestRow {f : Handler} (hf : f.Governs) (code : Byte) (e : Envelope) (s : State) :
    ∃ t, requestRow f code e s = .next t ∧ Governed (s.owner = none) s t :=
  exists_next_ite_of (fun _ => .refl s) fun _ => (governed_agentRequest hf code e s).trans (governed_settleRestart _)

theorem governed_receiveRow (p : Port) (x : LineEvent) (s : State) :
    ∃ t, receiveRow p x s = .next t ∧ Governed (s.owner = none) s t :=
  exists_next_ite_of (fun _ => .refl s) fun _ => (governed_receive p x s).trans (governed_settleRestart _)

theorem governed_execLeaseExpiry (s : State) : ∃ t, execLeaseExpiry s = .next t ∧ Governed w s t := by
  unfold execLeaseExpiry
  split
  · exact ⟨s, rfl, .refl s⟩
  · exact exists_next_ite_of (fun _ => .refl s) fun _ => governed_expireLease _ s

/-- Every command but RESET_ASSERT keeps the sessions and the holds in bounds and, where the part has no owner, its
configuration. -/
theorem governed_exec {c : Instr} (hc : c ≠ .resetAssert) (s : State) :
    ∃ t, exec c s = .next t ∧ Governed (s.owner = none) s t := by
  have outOfReset {u : State} (hu : Governed (s.owner = none) s u) :
      ∃ t, (if s.resetPin then .next s else .next u : Host.Outcome State Fault Refusal) = .next t
        ∧ Governed (s.owner = none) s t :=
    exists_next_ite_of (fun _ => .refl s) fun _ => hu
  have guarded {g : Prop} [Decidable g] {u : State} (hu : Governed (s.owner = none) s u) :
      ∃ t, (if g then .next u else .next s : Host.Outcome State Fault Refusal) = .next t ∧ Governed (s.owner = none) s t :=
    exists_next_ite_of (fun _ => hu) fun _ => .refl s
  cases c with
  | resetAssert => exact absurd rfl hc
  | resetRelease straps => exact guarded (.of_managed ((releasePort_managed .b _).trans (releasePort_managed .a _)))
  | signalPresent q =>
    exact exists_next_ite_of (fun _ => .of_managed (startSync_managed q _)) fun _ => .of_managed rfl
  | lossOfSignal q =>
    exact exists_next_ite_of (fun _ => (governed_settleRestart _).after (loseSignal_managed q _)) fun _ => .of_managed rfl
  | receiveSof | receiveDataByte | receiveEof | receiveAbort | receiveIdle | codeError => exact governed_receiveRow _ _ s
  | coolDownExpiry q => exact guarded (.of_managed (coolDownEnd_managed q s))
  | joinSettleExpiry => exact guarded (governed_settleExpiry s)
  | throughFrameStart q => exact guarded (.of_managed rfl)
  | transmitSymbol q => exact outOfReset ((governed_transmit q s).trans (governed_settleRestart _))
  | moveOutAnswer | moveOutMreply | moveOutNotice | moveOutAssign | moveOutBeacon =>
    exact ⟨_, rfl, governed_moveOutFrom _ _ s⟩
  | tick1ms => exact outOfReset (governed_takeTick1 s)
  | queueAgeOut q => exact outOfReset ((governed_settleRestart _).after (ageOut_managed q s))
  | beaconExpiry n => exact guarded ((Governed.setSlot (stands_startBeacon _)).trans (governed_fireBeacon n _))
  | tick10ms => exact outOfReset (governed_takeTick10 s)
  | holdTimerExpiry n => exact outOfReset (governed_lapse n s)
  | noticeRepeatExpiry => exact guarded (.of_managed (offerNotice_managed _))
  | tick100ms => exact outOfReset (governed_takeTick100 s)
  | leaseExpiry => exact governed_execLeaseExpiry s
  | bankCopyAdvance => exact outOfReset (governed_advanceCopy s)
  | bankCopyComplete => exact outOfReset (governed_completeCopy s)
  | ident e ps => exact governed_requestRow (governs_ident ps) _ e s
  | claim e ps => exact governed_requestRow (governs_claim ps) _ e s
  | renounce e ps => exact governed_requestRow (governs_renounce ps) _ e s
  | settingsRead e ps => exact governed_requestRow (governs_settingsRead ps) _ e s
  | settingsWrite e ps => exact governed_requestRow (governs_settingsWrite ps) _ e s
  | entryRead e ps => exact governed_requestRow (governs_entryRead ps) _ e s
  | entryWrite e ps => exact governed_requestRow (governs_entryWrite ps) _ e s
  | entryClear e ps => exact governed_requestRow (governs_entryClear ps) _ e s
  | bankCopy e ps => exact governed_requestRow (governs_bankCopy ps) _ e s
  | bankSwap e ps => exact governed_requestRow (governs_bankSwap ps) _ e s
  | slotSetup e ps => exact governed_requestRow (governs_slotSetup ps) _ e s
  | slotLoad e ps => exact governed_requestRow (governs_slotLoad ps) _ e s
  | slotReadWithoutHold e slot => exact governed_requestRow (governs_slotReadPlain slot) _ e s
  | slotReadWithHold e slot => exact governed_requestRow (governs_slotReadHold slot) _ e s
  | slotRelease e ps => exact governed_requestRow (governs_slotRelease ps) _ e s
  | noticeAck e ps => exact governed_requestRow (governs_noticeAck ps) _ e s
  | statsReadWithoutClear e group => exact governed_requestRow (governs_statsPlain group) _ e s
  | statsReadWithClear e group => exact governed_requestRow (governs_statsClear group) _ e s
  | restart e ps => exact governed_requestRow (governs_restart ps) _ e s
  | unknownRequest e code ps => exact governed_requestRow (governs_handlerOf code ps) code e s
  | assign q n => exact outOfReset (governed_assignEnd q n s)
  | restartBegin => exact guarded (governed_restartBegin s)
  | timestampCounterAdvance => exact outOfReset (governed_advanceTime s)

theorem governed_of_exec {c : Instr} {t : State} (hc : c ≠ .resetAssert) (ht : exec c s = .next t) :
    Governed (s.owner = none) s t := by
  obtain ⟨u, hu, governed⟩ := governed_exec hc s
  cases hu.symm.trans ht
  exact governed

theorem agentOk_exec {c : Instr} {t : State} (h : AgentOk s) (ht : exec c s = .next t) : AgentOk t := by
  by_cases hc : c = .resetAssert
  · subst hc
    cases ht
    exact { agentOk_reset with }
  · exact (governed_of_exec hc ht).agent h

theorem holdsOk_exec {c : Instr} {t : State} (h : HoldsOk s) (ht : exec c s = .next t) : HoldsOk t := by
  by_cases hc : c = .resetAssert
  · subst hc
    cases ht
    exact { holdsOk_reset with }
  · exact (governed_of_exec hc ht).holds h

end

/-- Settles O55: every command keeps both, whatever waits behind it; RESET_ASSERT sets both to their reset values. -/
theorem stepKeepsSessionsAndHolds : Obligations.StepKeepsSessionsAndHolds :=
  ⟨fun _ _ => step_keeps (fun _ _ h => { h with }) fun _ _ _ => agentOk_exec,
    fun _ _ => step_keeps (fun _ _ h => { h with }) fun _ _ _ => holdsOk_exec⟩

/-! ## What a setup fixes of a slot (R140) -/

section
variable {x y : SlotBody}

theorem SlotBody.kindByte_of_setup_eq (h : y.setup = x.setup) : kindByte y = kindByte x := by
  have kept (z : SlotBody) : kindByte z.setup = kindByte z := by cases z <;> rfl
  rw [← kept y, h, kept x]

theorem SlotBody.answer_of_setup_eq {a : AnswerSlot} (h : y.setup = (SlotBody.answer a).setup) :
    ∃ z, y = .answer z ∧ z.maxAge = a.maxAge := by
  cases y with
  | answer z =>
    simp only [setup, SlotBody.answer.injEq, AnswerSlot.mk.injEq] at h
    exact ⟨z, rfl, h.1⟩
  | _ => cases h

theorem SlotBody.beacon_of_setup_eq {a : BeaconSlot} (h : y.setup = (SlotBody.beacon a).setup) :
    ∃ z, y = .beacon z ∧ z = { a with seq := z.seq, timer := z.timer } := by
  cases y with
  | beacon z =>
    have same := SlotBody.beacon.inj h
    exact ⟨z, rfl, congrArg (fun b : BeaconSlot => { b with seq := z.seq, timer := z.timer }) same⟩
  | _ => cases h

end

/-- Settles O58: without an owner and without a copy every command keeps the configuration, of which each clause reads a part. -/
theorem nothingIsReconfiguredWithoutOwner : Obligations.NothingIsReconfiguredWithoutOwner := by
  intro c s t hc ho hcopy ht
  have same := (governed_of_exec hc ht).configuration ho hcopy
  simp only [State.configuration, Prod.mk.injEq] at same
  obtain ⟨settings, ⟨selector, gen, mark, -⟩, contents, slots⟩ := same
  refine ⟨settings, selector, gen, mark, fun k i => congrFun (congrFun contents k) i, fun n => ?_⟩
  have setup : t.slots[n].setup = s.slots[n].setup := congrFun slots n
  simp only [Slot.setup, Slot.mk.injEq] at setup
  obtain ⟨notify, generation, -, body⟩ := setup
  exact ⟨SlotBody.kindByte_of_setup_eq body, notify, generation,
    fun y hy => SlotBody.answer_of_setup_eq (hy ▸ body), fun y hy => SlotBody.beacon_of_setup_eq (hy ▸ body)⟩

end Sys2Proof.Machine
end

section
/-! SUPPORT and proof of the lease (R143, R144): what its expiry leaves of the slots, the queues and the relay state. -/

namespace Sys2Proof.Machine

/-! ## The expiry of a lease (R144, R95, R29) -/

section
variable {n : Fin 32} {p : Port} {o : Owner} {s : State}

/-- R173: without an owner an event places no NOTICE [log 25]. -/
theorem slotEvent_queues_of_unowned (h : s.owner = none) : (slotEvent n s).queues = s.queues := by
  rw [slotEvent_eq]
  split
  · rw [offerNotice_of_unowned (s := noted (slotBit n) s) h]
    rfl
  · rfl

theorem lapse_queues_of_unowned (h : s.owner = none) : (lapse n s).queues = s.queues := by
  unfold lapse
  split
  · exact slotEvent_queues_of_unowned h
  · exact slotEvent_queues_of_unowned h
  · rfl

theorem foldl_lapse_queues_of_unowned (l : List (Fin 32)) (h : s.owner = none) :
    (l.foldl (fun t n => lapse n t) s).queues = s.queues := by
  induction l generalizing s with
  | nil => rfl
  | cons n l ih => exact (ih (s := lapse n s) (by rw [lapse_frame]; exact h)).trans (lapse_queues_of_unowned h)

/-- R144, R146: of the queues a NOTICE alone goes with the owner. -/
theorem clearOwner_queues (p : Port) (s : State) : (clearOwner s).queues.get p = { s.queues.get p with
    entries := (s.queues.get p).entries.filter (fun x => !decide (x.body = .notice)) } := by
  have lapsed : (lapseAll { s with owner := none }).queues = s.queues :=
    foldl_lapse_queues_of_unowned (s := { s with owner := none }) s.holdList rfl
  simp only [clearOwner, withdraw_queues_get, lapsed, isFrom_notice]

/-- R29, R30: the latch set on a part without an owner. -/
theorem setLatch_of_unowned (h : s.owner = none) : setLatch s = { s with
    latch := true
    slots := mapVec stopBeacon s.slots
    relay := if s.relay = .relay then .fallback else s.relay
    queues := if s.relay = .relay then (withdraw EntryBody.hasSlot s).queues else s.queues
    dirStats := if s.relay = .relay then (withdraw EntryBody.hasSlot s).dirStats else s.dirStats } := by
  unfold setLatch
  split
  · exact offerNotice_of_unowned (s := { withdraw EntryBody.hasSlot { s with
      latch := true, slots := mapVec stopBeacon s.slots } with relay := .fallback }) h
  · rfl

theorem expireLease_of_keep (h : o.policy = .keep) : expireLease o s = clearOwner s := by simp only [expireLease, h]

theorem expireLease_of_fallback (h : o.policy = .fallback) : expireLease o s = { clearOwner s with
    latch := true
    slots := mapVec stopBeacon (clearOwner s).slots
    relay := if s.relay = .relay then .fallback else s.relay
    queues := if s.relay = .relay then (withdraw EntryBody.hasSlot (clearOwner s)).queues else (clearOwner s).queues
    dirStats := if s.relay = .relay then (withdraw EntryBody.hasSlot (clearOwner s)).dirStats
      else (clearOwner s).dirStats } := by
  have relay : (clearOwner s).relay = s.relay := by rw [clearOwner_frame]
  simp only [expireLease, h]
  rw [setLatch_of_unowned (by rw [clearOwner_frame]), relay]

/-- R144: what an expiry leaves of a slot. -/
theorem expireLease_slots (o : Owner) (n : Fin 32) (s : State) : (expireLease o s).slots[n]
    = if o.policy = .fallback then stopBeacon (clearOwner s).slots[n] else (clearOwner s).slots[n] := by
  cases h : o.policy with
  | keep => rw [expireLease_of_keep h, if_neg nofun]
  | fallback =>
    rw [expireLease_of_fallback h, if_pos rfl]
    exact getElem_mapVec ..

theorem expireLease_slots_of_capture {c : CaptureSlot} (h : (clearOwner s).slots[n].body = .capture c) :
    (expireLease o s).slots[n] = (clearOwner s).slots[n] := by
  rw [expireLease_slots, stopBeacon, h]
  exact ite_self _

/-- R95: a hold on the list lapses. -/
theorem expireLease_slots_of_held {c : CapturedRecord} {k : Bool} {r : Option CapturedRecord} {q : Nat} (hn : n ∈ s.holdList)
    (h : s.slots[n].body = .capture (.held c k r q)) : (expireLease o s).slots[n] = lapsedSlot c k r s.slots[n] := by
  have cleared : (clearOwner s).slots[n] = lapsedSlot c k r s.slots[n] := by
    rw [clearOwner_slots, if_pos hn, Slot.lapsed_of_held h]
  rw [← cleared]
  cases r <;> exact expireLease_slots_of_capture (by rw [cleared]; rfl)

/-- R29: a beacon timer stops where the latch is set. -/
theorem expireLease_slots_of_beacon {y : BeaconSlot} (h : s.slots[n].body = .beacon y) : (expireLease o s).slots[n]
    = if o.policy = .fallback then { s.slots[n] with body := .beacon { y with timer := none } } else s.slots[n] := by
  have cleared : (clearOwner s).slots[n] = s.slots[n] := by
    rw [clearOwner_slots, Slot.lapsed_of_not_held (by simp only [Slot.isHeld, h])]
    exact ite_self _
  rw [expireLease_slots, cleared, stopBeacon, h]

/-- R144, R29: the entries that leave a queue at an expiry: a NOTICE and, where FALLBACK takes over from RELAY, those of
a slot. -/
theorem expireLease_queues (o : Owner) (p : Port) (s : State) : (expireLease o s).queues.get p = { s.queues.get p with
    entries := (s.queues.get p).entries.filter (fun x => !(decide (x.body = .notice)
      || (decide (o.policy = .fallback ∧ s.relay = .relay) && x.body.hasSlot))) } := by
  cases h : o.policy with
  | keep => simp [expireLease_of_keep h, clearOwner_queues]
  | fallback =>
    rw [expireLease_of_fallback h]
    by_cases hr : s.relay = .relay
    · simp [hr, clearOwner_queues, List.filter_filter, Bool.and_comm]
    · simp [hr, clearOwner_queues]

/-- R144, R29: an expiry leaves what has no part in the owner's record, the holds, the queues and the fallback. -/
theorem expireLease_frame (o : Owner) (s : State) : expireLease o s = { s with
    owner := none
    holdList := []
    latch := s.latch || decide (o.policy = .fallback)
    relay := if o.policy = .fallback ∧ s.relay = .relay then .fallback else s.relay
    slots := (expireLease o s).slots, notice := (expireLease o s).notice
    queues := (expireLease o s).queues, dirStats := (expireLease o s).dirStats } := by
  cases h : o.policy with
  | keep =>
    rw [expireLease_of_keep h, clearOwner_frame]
    simp
  | fallback =>
    rw [expireLease_of_fallback h, clearOwner_frame]
    simp

theorem exec_leaseExpiry_of_owner (hreset : s.resetPin = false) (ho : s.owner = some o) :
    exec .leaseExpiry s = .next (expireLease o s) := by
  simp only [exec, execLeaseExpiry, ho, hreset]
  rfl

/-- R143: a tick takes 1 from a lease that has more left. -/
theorem tick100ms_of_lease (ho : s.owner = some o) (h : 2 ≤ o.lease) :
    tick100ms s = { s with owner := some { o with lease := o.lease - 1 } } := by
  simp only [tick100ms, ho, if_neg (Nat.not_le.mpr h)]

theorem tick100ms_of_last (ho : s.owner = some o) (h : o.lease = 1) : tick100ms s = expireLease o s := by
  simp only [tick100ms, ho, h, if_pos (Nat.le_refl 1)]

theorem tick100ms_of_unowned (h : s.owner = none) : tick100ms s = s := by simp only [tick100ms, h]

theorem exec_tick100ms_of_due (hreset : s.resetPin = false) (h : s.due.hundred = true) :
    exec .tick100ms s = .next (tick100ms { s with due := { s.due with hundred := false } }) := by
  refine (if_neg (by rw [hreset]; decide)).trans ?_
  rw [takeTick100_of_due h]

end

/-- Settles O39: the tick by the lease that is left, and the expiry by what it leaves of each part. -/
theorem leaseRunsOut : Obligations.LeaseRunsOut := by
  refine ⟨fun s hreset => ?tick, fun s ho => ?unowned, fun s o hreset ho => ?expiry⟩
  case tick =>
    intro taken
    refine ⟨fun hnot => ?notDue, fun hdue => ⟨fun o ho hlease => ?counts, fun o ho hlease => ?last, fun ho => ?none⟩⟩
    case notDue => exact (congrArg _ (congrArg _ (takeTick100_of_not_due hnot))).trans (ite_self _)
    case counts => rw [exec_tick100ms_of_due hreset hdue, tick100ms_of_lease (s := taken) ho hlease]
    case last =>
      rw [exec_tick100ms_of_due hreset hdue, exec_leaseExpiry_of_owner (s := taken) hreset ho,
        tick100ms_of_last (s := taken) ho hlease]
    case none => rw [exec_tick100ms_of_due hreset hdue, tick100ms_of_unowned (s := taken) ho]
  case unowned => simp only [exec, execLeaseExpiry, ho]
  case expiry =>
    refine ⟨expireLease o s, exec_leaseExpiry_of_owner hreset ho, ?_, ?_, fun p => expireLease_queues o p s,
      fun n c k q hn hbody => expireLease_slots_of_held hn hbody, fun n c k r q hn hbody => expireLease_slots_of_held hn hbody,
      fun n y hbody => expireLease_slots_of_beacon hbody, ?_⟩
    all_goals rw [expireLease_frame]
    exact ⟨rfl, rfl, rfl, rfl, rfl, rfl, rfl⟩

end Sys2Proof.Machine
end

section
/-! SUPPORT and proofs of CLAIM and RENOUNCE (R142, R146) and of address enumeration (R149). -/

namespace Sys2Proof.Machine

/-! ## CLAIM and RENOUNCE (R142, R146, R154) -/

section
variable {f : Handler} {code : Byte} {e : Envelope} {s t : State} {st : Status} {rs : List Byte}

/-- R140: a request open to any manager runs. -/
theorem runRequest_of_open (hstep : f.step3 = none) (hopen : f.ownerOnly = false) : runRequest f e s = f.run e s := by
  simp only [runRequest, hstep, hopen, ownershipRefusal]
  rfl

/-- R137: an accepted request answered with a reply, what follows the reply included. -/
theorem requestRow_then_after (h : Accepts e s) (hrun : runRequest f e s = (t, .plain st rs))
    (hroom : (t.queues.get e.port).occupancy < 16) (hdue : restartDue t = restartDue s)
    (hafter : ∀ u, restartDue (f.after (.plain st rs) u) = restartDue u) :
    requestRow f code e s = .next (f.after (.plain st rs) (answered e (code :: statusByte st :: rs) t)) := by
  rw [requestRow_of_accepts h, hrun]
  obtain ⟨-, -, hcopy, -, -, -, notDue⟩ := h
  rw [finishRequest_of_plain hcopy hroom]
  exact congrArg _ (settleRestart_of_not_due ((hafter _).trans ((restartDue_answered _ _).trans (hdue.trans notDue))))

/-- R137: an accepted request that is refused, and that nothing follows. -/
theorem requestRow_of_refusal (h : Accepts e s) (hrun : runRequest f e s = (s, .plain st rs))
    (hafter : ∀ u, f.after (.plain st rs) u = u) :
    requestRow f code e s = .next (answered e (code :: statusByte st :: rs) s) := by
  have ⟨_, _, _, _, _, hroom, _⟩ := h
  rw [requestRow_then_after h hrun hroom rfl fun u => congrArg restartDue (hafter u), hafter]

theorem fromOwner_iff {o : Owner} (ho : s.owner = some o) : FromOwner e s ↔ o.addr = e.src := by simp [FromOwner, ho]

section
variable {hi lo pb : Byte} {k : Policy}

theorem claim_values_in_range (hleast : 1 ≤ (half hi lo).toNat) (hmost : (half hi lo).toNat ≤ 600) (hsrc : e.src ≠ 0) :
    ¬(half hi lo = 0 ∨ 600 < (half hi lo).toNat ∨ e.src = 0) := by
  rintro (h0 | hmore | hzero)
  · simp [h0] at hleast
  · omega
  · exact hsrc hzero

theorem runClaim_grants (hk : policyOf pb = some k) (hleast : 1 ≤ (half hi lo).toNat) (hmost : (half hi lo).toNat ≤ 600)
    (hsrc : e.src ≠ 0) (ho : s.owner = none ∨ FromOwner e s) : runClaim (half hi lo) pb e s
      = (grant e (half hi lo) k s, .plain .done [e.src, hi, lo, pb]) := by
  have bytes : bytes16 (half hi lo) = [hi, lo] := ((bytes_eq_bytes16_iff hi lo _).mpr rfl).symm
  simp only [runClaim, hk, if_neg (claim_values_in_range hleast hmost hsrc), bytes]
  split
  · rename_i o howner
    rcases ho with hnone | hmine
    · cases howner.symm.trans hnone
    · exact if_pos ((fromOwner_iff howner).mp hmine)
  · rfl

theorem runClaim_of_other {o : Owner} (hk : policyOf pb = some k) (hleast : 1 ≤ (half hi lo).toNat)
    (hmost : (half hi lo).toNat ≤ 600) (hsrc : e.src ≠ 0) (ho : s.owner = some o) (hother : o.addr ≠ e.src) :
    runClaim (half hi lo) pb e s = (s, .plain .owned (o.addr :: bytes16 (BitVec.ofNat 16 o.lease))) := by
  simp only [runClaim, hk, if_neg (claim_values_in_range hleast hmost hsrc), ho, if_neg hother]

theorem policyOf_eq_none_iff (b : Byte) : policyOf b = none ↔ 2 ≤ b.toNat := by
  rw [← not_flag_iff, policyOf]
  split_ifs with h0 h1
  · simp [h0]
  · simp [h1]
  · exact iff_of_true rfl ⟨h0, h1⟩

theorem runClaim_of_bad_value (h : 2 ≤ pb.toNat ∨ half hi lo = 0 ∨ 600 < (half hi lo).toNat ∨ e.src = 0) :
    runClaim (half hi lo) pb e s = (s, .plain .badValue []) := by
  unfold runClaim
  split
  · rfl
  · rename_i hk
    rcases h with hpolicy | hvalues
    · rw [(policyOf_eq_none_iff pb).mpr hpolicy] at hk
      cases hk
    · exact if_pos hvalues

end

/-- R146: RENOUNCE leaves the part as the owner's clearing does. -/
theorem exec_renounce (h : Accepts e s) (ho : FromOwner e s) :
    exec (.renounce e []) s = .next (answered e [0x03, 0x00] (clearOwner s)) := by
  have room : ((clearOwner s).queues.get e.port).occupancy < 16 := by
    have ⟨_, _, _, _, _, hroom, _⟩ := h
    rw [clearOwner_queues]
    refine lt_of_le_of_lt ?_ hroom
    exact Nat.add_le_add_right (List.length_filter_le _ _) _
  exact requestRow_of_runRequest (f := renounceHandler []) (st := .done) (rs := []) h rfl (runRequest_of_owner rfl ho) room
    (restartDue_clearOwner s)

end

/-- Settles O44: the run of a CLAIM by the owner and the values, and RENOUNCE by the clearing of the owner. -/
theorem claimGrantsAndRenounceClears : Obligations.ClaimGrantsAndRenounceClears := by
  intro e s h
  have run (hi lo pb : Byte) : runRequest (claimHandler [hi, lo, pb]) e s = runClaim (half hi lo) pb e s :=
    runRequest_of_open rfl rfl
  refine ⟨fun hi lo pb k hk hleast hmost hsrc => ⟨fun ho => ?granted, fun o ho hother => ?owned⟩,
    fun hi lo pb hbad => ?badValue, fun o ho hsrc => ?renounced⟩
  case granted =>
    have ⟨_, _, _, _, _, hroom, _⟩ := h
    exact requestRow_then_after (f := claimHandler [hi, lo, pb]) h
      ((run hi lo pb).trans (runClaim_grants hk hleast hmost hsrc ho)) hroom rfl restartDue_offerNotice
  case owned =>
    exact requestRow_of_refusal (f := claimHandler [hi, lo, pb]) h
      ((run hi lo pb).trans (runClaim_of_other hk hleast hmost hsrc ho hother)) fun _ => rfl
  case badValue =>
    exact requestRow_of_refusal (f := claimHandler [hi, lo, pb]) h
      ((run hi lo pb).trans (runClaim_of_bad_value hbad)) fun _ => rfl
  case renounced =>
    have ⟨hreset, _⟩ := h
    refine ⟨clearOwner s, ?_, exec_renounce h ((fromOwner_iff ho).mpr hsrc)⟩
    rw [exec_leaseExpiry_of_owner (by exact hreset) rfl, expireLease_of_keep rfl]
    rfl

/-! ## Address enumeration (R149, R120) -/

section
variable {p : Port} {b : Byte} {s : State}

theorem isFrom_assign_eq_false_iff {x : EntryBody} : x.isFrom .assign = false ↔ ∀ c, x ≠ .assign c := by
  cases x <;> simp [EntryBody.isFrom, EntryBody.source]

theorem hasAssign_eq_false (h : ∀ x ∈ (s.queues.get p).entries, ∀ c, x.body ≠ .assign c) :
    hasAssign (s.queues.get p) = false :=
  List.any_eq_false.mpr fun x hx => Bool.eq_false_iff.mp (isFrom_assign_eq_false_iff.mpr (h x hx))

theorem offerAssign_of_room (hnone : ∀ x ∈ (s.queues.get p).entries, ∀ c, x.body ≠ .assign c)
    (hroom : (s.queues.get p).occupancy < 16) : offerAssign p b s = enqueued p (.assign b) s := by
  have room : (s.queues.get p).room = true := decide_eq_true hroom
  rw [offerAssign, hasAssign_eq_false hnone, room, place_of_room hroom]
  rfl

theorem offerAssign_of_full (hnone : ∀ x ∈ (s.queues.get p).entries, ∀ c, x.body ≠ .assign c)
    (hfull : 16 ≤ (s.queues.get p).occupancy) : offerAssign p b s = countNoRoom s := by
  have room : (s.queues.get p).room = false := decide_eq_false (Nat.not_lt.mpr hfull)
  rw [offerAssign, hasAssign_eq_false hnone, room]
  rfl

/-- R120: the one queued ASSIGN takes the byte and keeps its place and time. -/
theorem offerAssign_of_queued {pre post : List QEntry} {c : Byte} {time : Wide}
    (hqueued : (s.queues.get p).entries = pre ++ { body := .assign c, time := time } :: post)
    (hothers : ∀ x ∈ pre ++ post, ∀ d, x.body ≠ .assign d) : offerAssign p b s
      = s.setQueue p { s.queues.get p with entries := pre ++ { body := .assign b, time := time } :: post } := by
  have queued : hasAssign (s.queues.get p) = true := by simp [hasAssign, hqueued, EntryBody.isFrom, EntryBody.source]
  have replaced := map_ite_of_sole (t := fun x : QEntry => x.body.isFrom .assign) (e := { body := .assign c, time := time }) rfl
    (fun x hx => isFrom_assign_eq_false_iff.mpr (hothers x hx)) fun x => { x with body := .assign b }
  rw [offerAssign, if_pos queued, replaceAssign, hqueued, replaced]

theorem exec_assign_of_relays (hreset : s.resetPin = false) (hrelay : s.relay = .relay ∨ s.relay = .fallback) (n : Byte) :
    exec (.assign p n) s = .next (offerAssign (otherPort p) (if n = 0 ∨ n = 255 then n else n + 1)
      { s with ownAddr := if n = 0 ∨ n = 255 then s.ownAddr else n }) := by
  refine (if_neg (by rw [hreset]; decide)).trans (congrArg _ ?_)
  rw [assignEnd, if_pos (relays_iff.mpr hrelay)]
  split <;> rfl

end

/-- Settles O52: the enumeration frame's end, and then the offer by what the other port's queue holds. -/
theorem assignSetsAddressAndGoesOn : Obligations.AssignSetsAddressAndGoesOn := by
  intro p n s hreset q onward u
  refine ⟨fun hrelay => ⟨fun hnone hroom => ?placed, fun hnone hfull => ?noRoom,
    fun pre post b time hqueued hothers => ?replaced⟩, fun hrelay => ?discarded⟩
  case placed =>
    exact (exec_assign_of_relays hreset hrelay n).trans (congrArg _ (offerAssign_of_room (s := u) hnone hroom))
  case noRoom =>
    exact (exec_assign_of_relays hreset hrelay n).trans (congrArg _ (offerAssign_of_full (s := u) hnone hfull))
  case replaced =>
    exact (exec_assign_of_relays hreset hrelay n).trans (congrArg _ (offerAssign_of_queued (s := u) hqueued hothers))
  case discarded =>
    refine (if_neg (by rw [hreset]; decide)).trans (congrArg _ ?_)
    exact if_neg (by rcases hrelay with hr | hr <;> rw [hr] <;> decide)

end Sys2Proof.Machine
end

section
/-! SUPPORT and proof of what every request passes before its own effect (R134 to R140, R147, R148, R152, R179). -/

namespace Sys2Proof.Machine

/-! ## Steps 1 and 2 of the gate (R134, R135, R137, R148) -/

section
variable {f : Handler} {code : Byte} {ps : List Byte} {e : Envelope} {s t : State} {x : CacheEntry}

/-- A payload taken as it stands, where what the agent does brings no restart about. -/
theorem exec_unknownRequest (hreset : s.resetPin = false) (hdue : restartDue s = false)
    (hagent : agentRequest (handlerOf code ps) code e s = t) (hkept : restartDue t = restartDue s) :
    exec (.unknownRequest e code ps) s = .next t := by
  have row : exec (.unknownRequest e code ps) s = .next (settleRestart (agentRequest (handlerOf code ps) code e s)) :=
    if_neg (by simp [hreset])
  rw [row, hagent, settleRestart_of_not_due (hkept.trans hdue)]

theorem agentRequest_of_copy (hcopy : e.copy = true) (hcode : code ≠ 0x01) : agentRequest f code e s = s :=
  if_pos ⟨hcopy, hcode⟩

theorem agentRequest_of_heeded (h : e.copy = false ∨ code = 0x01) : agentRequest f code e s
    = if s.relay.relays = false then s.bumpAgent (fun c => { c with discardedBypass := satInc c.discardedBypass })
      else if e.src = 255 then s.bumpAgent (fun c => { c with droppedBadSrc := satInc c.droppedBadSrc })
      else examine f code e s := by
  refine if_neg ?_
  rintro ⟨hcopy, hcode⟩
  rcases h with hnot | hident
  · exact Bool.noConfusion (hnot.symm.trans hcopy)
  · exact hcode hident

theorem agentRequest_of_not_relays (h : e.copy = false ∨ code = 0x01) (hrelay : ¬(s.relay = .relay ∨ s.relay = .fallback)) :
    agentRequest f code e s
      = { s with agentStats := { s.agentStats with discardedBypass := satInc s.agentStats.discardedBypass } } :=
  (agentRequest_of_heeded h).trans (if_pos (by simpa using mt relays_iff.mp hrelay))

section
variable (h : e.copy = false ∨ code = 0x01) (hrelay : s.relay = .relay ∨ s.relay = .fallback)
include h hrelay

theorem agentRequest_of_bad_src (hsrc : e.src = 255) : agentRequest f code e s
    = { s with agentStats := { s.agentStats with droppedBadSrc := satInc s.agentStats.droppedBadSrc } } := by
  rw [agentRequest_of_heeded h, if_neg (by simp [relays_iff.mpr hrelay]), if_pos hsrc]
  rfl

theorem agentRequest_eq_examine (hsrc : e.src ≠ 255) : agentRequest f code e s = examine f code e s := by
  rw [agentRequest_of_heeded h, if_neg (by simp [relays_iff.mpr hrelay]), if_neg hsrc]

end

theorem examine_of_new (h : e.copy = true ∨ cachedEntry e s = none) : examine f code e s
    = if (s.queues.get e.port).room then
        f.after (runRequest f e s).2 (finishRequest e code (runRequest f e s).2 (runRequest f e s).1)
      else countNoRoom s := by
  have new : (if e.copy then none else cachedEntry e s) = none := by
    rcases h with hcopy | hnone
    · exact if_pos hcopy
    · rw [hnone, ite_self]
  rw [examine, new]

theorem examine_of_full (h : e.copy = true ∨ cachedEntry e s = none) (hfull : ¬(s.queues.get e.port).occupancy < 16) :
    examine f code e s = countNoRoom s :=
  (examine_of_new h).trans (if_neg (by simpa [Queue.room] using hfull))

/-- R134, R147: a broadcast IDENT is answered without a cache entry. -/
theorem examine_broadcast_ident (hcopy : e.copy = true) (hroom : (s.queues.get e.port).occupancy < 16) :
    examine (identHandler []) 0x01 e s = { answered e ([0x01, 0x00] ++ identResults s) s with cache := s.cache } := by
  have room : (s.queues.get e.port).room = true := decide_eq_true hroom
  have run : runRequest (identHandler []) e s = (s, .plain .done (identResults s)) := runRequest_of_open rfl rfl
  rw [examine_of_new (.inl hcopy), if_pos room, run, Answer.plain, finishRequest, countAnswer_eq, recordRequest,
    if_pos hcopy, placeReply, place_of_room hroom]
  rfl

theorem examine_of_cached (hcopy : e.copy = false) (hx : cachedEntry e s = some x) :
    examine f code e s = duplicate e x s := by
  simp only [examine, hcopy, hx, Bool.false_eq_true, if_false]

/-- R147, R148: a duplicate's entry at the front of the cache, and the duplicate counted. -/
def repeated (x : CacheEntry) (s : State) : State :=
  { s with
    cache := x :: s.cache.filter (fun y => decide (y.manager ≠ x.manager))
    agentStats := { s.agentStats with duplicates := satInc s.agentStats.duplicates } }

theorem duplicate_in_progress (hreply : x.reply = none) : duplicate e x s = repeated x s := by
  rw [duplicate, hreply]
  rfl

theorem duplicate_of_room {payload : List Byte} (hreply : x.reply = some payload)
    (hroom : (s.queues.get e.port).occupancy < 16) :
    duplicate e x s = enqueued e.port (.mreply e.src s.ownAddr e.seq payload false) (repeated x s) := by
  have room : (s.queues.get e.port).room = true := decide_eq_true hroom
  simp only [duplicate, hreply, room, if_true]
  exact place_of_room (s := repeated x s) hroom

theorem duplicate_of_full {payload : List Byte} (hreply : x.reply = some payload)
    (hfull : ¬(s.queues.get e.port).occupancy < 16) : duplicate e x s = countNoRoom (repeated x s) := by
  have room : (s.queues.get e.port).room = false := decide_eq_false hfull
  simp only [duplicate, hreply, room, Bool.false_eq_true, if_false]
  rfl

theorem restartDue_enqueued {p : Port} {b : EntryBody} (hb : b.isNamed = false) :
    restartDue (enqueued p b s) = restartDue s :=
  restartDue_setQueue (by simp [hb])

end

/-! ## Steps 3 and 4 of the gate (R140, R152) -/

/-- Nothing follows the reply of a request that was not executed. -/
def Handler.RefusesQuietly (f : Handler) : Prop :=
  ∀ st rs s, st ≠ .done → f.after (.plain st rs) s = s

section
variable {f g : Handler}

theorem Handler.RefusesQuietly.of_noAfter (h : f.after = noAfter) : f.RefusesQuietly := fun _ _ _ _ => by rw [h]; rfl

theorem Handler.RefusesQuietly.of_isDone {u : State → State} (h : f.after = fun a s => if a.isDone then u s else s) :
    f.RefusesQuietly := by
  intro st rs s hst
  have refused : (Answer.plain st rs).isDone = false := by
    cases st
    case done => exact absurd rfl hst
    all_goals rfl
  rw [h]
  exact if_neg (by rw [refused]; decide)

theorem Handler.RefusesQuietly.ite {c : Prop} [Decidable c] (hf : f.RefusesQuietly) (hg : g.RefusesQuietly) :
    (if c then f else g).RefusesQuietly := by
  split
  · exact hf
  · exact hg

theorem Handler.RefusesQuietly.select {without withIt : Byte → Handler} (hwithout : ∀ b, (without b).after = noAfter)
    (hwith : ∀ b, (withIt b).after = noAfter) (ps : List Byte) : (selectHandler without withIt ps).RefusesQuietly := by
  unfold selectHandler
  split
  · exact .ite (.of_noAfter (hwithout _)) (.ite (.of_noAfter (hwith _)) (.of_noAfter rfl))
  · exact .of_noAfter rfl

/-- Of the seventeen requests only CLAIM and SETTINGS-WRITE have an aftermath, and theirs follows execution (R173, R157). -/
theorem refusesQuietly_handlerOf (code : Byte) (ps : List Byte) : (handlerOf code ps).RefusesQuietly :=
  .ite (.of_noAfter rfl) <| .ite (.of_isDone rfl) <| .ite (.of_noAfter rfl) <| .ite (.of_noAfter rfl) <|
  .ite (.of_isDone rfl) <| .ite (.of_noAfter rfl) <| .ite (.of_noAfter rfl) <| .ite (.of_noAfter rfl) <|
  .ite (.of_noAfter rfl) <| .ite (.of_noAfter rfl) <| .ite (.of_noAfter rfl) <| .ite (.of_noAfter rfl) <|
  .ite (.select (fun _ => rfl) (fun _ => rfl) ps) <| .ite (.of_noAfter rfl) <| .ite (.of_noAfter rfl) <|
  .ite (.select (fun _ => rfl) (fun _ => rfl) ps) <| .ite (.of_noAfter rfl) <| .of_noAfter rfl

end

section
variable {code : Byte} {ps : List Byte} {e : Envelope} {s : State}

/-- R152: a request that step 3 refuses. -/
theorem exec_refused_of_step3 {st : Status} (h : Accepts e s) (hstep : (handlerOf code ps).step3 = some st)
    (hst : st ≠ .done) : exec (.unknownRequest e code ps) s = .next (answered e [code, statusByte st] s) :=
  requestRow_of_refusal h (by simp only [runRequest, hstep]) fun u => refusesQuietly_handlerOf code ps st [] u hst

/-- R140: an owner-only request that passes step 3 is refused to every manager but the owner. -/
theorem exec_refused_of_not_owner (h : Accepts e s) (hstep : (handlerOf code ps).step3 = none)
    (hownerOnly : (handlerOf code ps).ownerOnly = true) :
    (s.owner = none → exec (.unknownRequest e code ps) s = .next (answered e [code, 0x01] s))
    ∧ ∀ o, s.owner = some o → o.addr ≠ e.src → exec (.unknownRequest e code ps) s
        = .next (answered e ([code, 0x02, o.addr] ++ bytes16 (BitVec.ofNat 16 o.lease)) s) := by
  have refused {st : Status} {rs : List Byte} (hst : st ≠ .done) (hrefusal : ownershipRefusal true e s = some (.plain st rs)) :
      exec (.unknownRequest e code ps) s = .next (answered e (code :: statusByte st :: rs) s) :=
    requestRow_of_refusal h (by simp only [runRequest, hstep, hownerOnly, hrefusal])
      fun u => refusesQuietly_handlerOf code ps st rs u hst
  exact ⟨fun ho => refused (by decide) (ownershipRefusal_of_unowned ho),
    fun o ho hother => refused (by decide) (ownershipRefusal_of_other ho hother)⟩

end

/-! ## What step 3 asks of each code (R152, R182) -/

section
variable {code : Byte} {ps : List Byte}

theorem handlerOf_unknown (h : code ∉ ([0x01, 0x02, 0x03, 0x04, 0x05, 0x10, 0x11, 0x12, 0x13, 0x14, 0x20, 0x21, 0x22, 0x23,
    0x30, 0x31, 0x3F] : List Byte)) : handlerOf code ps = refusedHandler .badRequest := by
  simp only [List.mem_cons, List.not_mem_nil, or_false, not_or] at h
  simp only [handlerOf, h, if_false]

/-- R182: the codes with one parameter length that step 3 compares by itself. -/
def fixedLengths : List (Byte × Nat) :=
  [(0x01, 0), (0x02, 3), (0x03, 0), (0x04, 0), (0x05, 8), (0x10, 2), (0x11, 13), (0x12, 1), (0x13, 0), (0x14, 2), (0x23, 1),
    (0x30, 5), (0x3F, 0)]

theorem step3_of_fixedLength {n : Nat} (h : (code, n) ∈ fixedLengths) : (handlerOf code ps).step3 = lengthCheck n ps := by
  simp only [fixedLengths, List.mem_cons, List.not_mem_nil, or_false, Prod.mk.injEq] at h
  rcases h with ⟨rfl, rfl⟩ | ⟨rfl, rfl⟩ | ⟨rfl, rfl⟩ | ⟨rfl, rfl⟩ | ⟨rfl, rfl⟩ | ⟨rfl, rfl⟩ | ⟨rfl, rfl⟩
    | ⟨rfl, rfl⟩ | ⟨rfl, rfl⟩ | ⟨rfl, rfl⟩ | ⟨rfl, rfl⟩ | ⟨rfl, rfl⟩ | ⟨rfl, rfl⟩ <;> rfl

theorem ownerOnly_of_code (h : code ∈ ([0x03, 0x05, 0x11, 0x12, 0x13, 0x14, 0x23, 0x30, 0x3F] : List Byte)) :
    (handlerOf code ps).ownerOnly = true := by
  simp only [List.mem_cons, List.not_mem_nil, or_false] at h
  rcases h with rfl | rfl | rfl | rfl | rfl | rfl | rfl | rfl | rfl <;> rfl

/-- R182: SLOT-READ and STATS-READ have one parameter length too, which the choice by the selection byte compares. -/
def parameterLengths : List (Byte × Nat) :=
  [(0x01, 0), (0x02, 3), (0x03, 0), (0x04, 0), (0x05, 8), (0x10, 2), (0x11, 13), (0x12, 1), (0x13, 0), (0x14, 2), (0x22, 2),
    (0x23, 1), (0x30, 5), (0x31, 2), (0x3F, 0)]

theorem fixedLength_or_select {n : Nat} (h : (code, n) ∈ parameterLengths) :
    (code, n) ∈ fixedLengths ∨ (code = 0x22 ∨ code = 0x31) ∧ n = 2 := by
  have all : ∀ x ∈ parameterLengths, x ∈ fixedLengths ∨ (x.1 = 0x22 ∨ x.1 = 0x31) ∧ x.2 = 2 := by decide
  exact all _ h

theorem selectHandler_of_length {without withIt : Byte → Handler} (h : ps.length ≠ 2) :
    selectHandler without withIt ps = refusedHandler .badRequest := by
  unfold selectHandler
  split
  · exact absurd rfl h
  · rfl

theorem selectHandler_of_undefined {without withIt : Byte → Handler} {x y : Byte} (h : 2 ≤ y.toNat) :
    selectHandler without withIt [x, y] = refusedHandler .badValue := by
  obtain ⟨h0, h1⟩ := (not_flag_iff y).mpr h
  simp only [selectHandler, h0, h1, if_false]

theorem step3_of_wrong_length {n : Nat} (h : (code, n) ∈ parameterLengths)
    (hlength : ps.length ≠ n) : (handlerOf code ps).step3 = some .badRequest := by
  rcases fixedLength_or_select h with hfixed | ⟨rfl | rfl, rfl⟩
  · exact (step3_of_fixedLength hfixed).trans (if_neg hlength)
  · exact congrArg Handler.step3 (selectHandler_of_length hlength)
  · exact congrArg Handler.step3 (selectHandler_of_length hlength)

variable {n k f : Byte} {rest : List Byte}

theorem setupLength_of_empty_kind (hk : k = 0 ∨ k = 1) : setupLength (n :: k :: f :: rest) = lengthCheck 0 rest := by
  rcases hk with rfl | rfl <;> simp [setupLength, lengthCheck]

theorem setupLength_of_answer_kind : setupLength (n :: 2 :: f :: rest) = lengthCheck 2 rest := by
  simp [setupLength, lengthCheck]

theorem setupLength_of_beacon_kind : setupLength (n :: 3 :: f :: rest)
    = if rest.length = 5 ∨ rest.length = 6 then none else some .badRequest := by
  simp [setupLength]

theorem setupLength_of_fit (h : (k = 0 ∨ k = 1) ∧ rest = [] ∨ k = 2 ∧ rest.length = 2
    ∨ k = 3 ∧ (rest.length = 5 ∨ rest.length = 6) ∨ 4 ≤ k.toNat) : setupLength (n :: k :: f :: rest) = none := by
  rcases h with ⟨hk, rfl⟩ | ⟨rfl, hlength⟩ | ⟨rfl, hlength⟩ | hk
  · exact setupLength_of_empty_kind hk
  · exact setupLength_of_answer_kind.trans (if_pos hlength)
  · exact setupLength_of_beacon_kind.trans (if_pos hlength)
  · exact setupLength_of_bad_kind hk

theorem setupLength_of_misfit (h : (k = 0 ∨ k = 1) ∧ rest ≠ [] ∨ k = 2 ∧ rest.length ≠ 2
    ∨ k = 3 ∧ rest.length ≠ 5 ∧ rest.length ≠ 6) : setupLength (n :: k :: f :: rest) = some .badRequest := by
  rcases h with ⟨hk, hrest⟩ | ⟨rfl, hlength⟩ | ⟨rfl, hlength⟩
  · exact (setupLength_of_empty_kind hk).trans (if_neg (mt List.length_eq_zero_iff.mp hrest))
  · exact setupLength_of_answer_kind.trans (if_neg hlength)
  · exact setupLength_of_beacon_kind.trans (if_neg (not_or.mpr hlength))

end

/-- Settles O51: the gate's steps in order, and then what step 3 and step 4 ask of each code. -/
theorem requestsPassTheGateInOrder : Obligations.RequestsPassTheGateInOrder := by
  intro e code ps s hreset hdue run relays room counted cached refused
  refine ⟨fun hcopy hcode => ?ignored,
    fun hheeded => ⟨fun hrelay => ?discarded, fun hrelay hsrc => ?badSrc, fun hrelay hsrc hnew hfull => ?noRoom⟩,
    fun hcopy hcode hps hrelay hsrc hroom => ?broadcastIdent, fun x hcopy hrelay hsrc hx => ?repeated, fun h => ?accepted⟩
  case ignored => exact exec_unknownRequest hreset hdue (agentRequest_of_copy hcopy hcode) rfl
  case discarded => exact exec_unknownRequest hreset hdue (agentRequest_of_not_relays hheeded hrelay) rfl
  case badSrc => exact exec_unknownRequest hreset hdue (agentRequest_of_bad_src hheeded hrelay hsrc) rfl
  case noRoom =>
    exact exec_unknownRequest hreset hdue ((agentRequest_eq_examine hheeded hrelay hsrc).trans (examine_of_full hnew hfull)) rfl
  case broadcastIdent =>
    subst hcode hps
    exact exec_unknownRequest hreset hdue
      ((agentRequest_eq_examine (.inr rfl) hrelay hsrc).trans (examine_broadcast_ident hcopy hroom)) (restartDue_answered _ s)
  case repeated =>
    have examined {t : State} (hduplicate : duplicate e x s = t) : agentRequest (handlerOf code ps) code e s = t :=
      (agentRequest_eq_examine (.inl hcopy) hrelay hsrc).trans ((examine_of_cached hcopy hx).trans hduplicate)
    refine ⟨fun hreply => ?_, fun payload hreply hroom => ?_, fun payload hreply hfull => ?_⟩
    · exact exec_unknownRequest hreset hdue (examined (duplicate_in_progress hreply)) rfl
    · exact exec_unknownRequest hreset hdue (examined (duplicate_of_room hreply hroom))
        (restartDue_enqueued (s := repeated x s) rfl)
    · exact exec_unknownRequest hreset hdue (examined (duplicate_of_full hreply hfull)) rfl
  case accepted =>
    have badRequest (hstep : (handlerOf code ps).step3 = some .badRequest) : run = .next (answered e [code, 0x03] s) :=
      exec_refused_of_step3 h hstep (by decide)
    refine ⟨fun hunknown => badRequest (congrArg Handler.step3 (handlerOf_unknown hunknown)),
      fun n hn => ⟨fun hlength => badRequest (step3_of_wrong_length hn hlength),
        fun hlength howner => ?ownerOnly⟩,
      ?slotSetup, ?slotSetupMisfit, ?slotLoad, ?select⟩
    case ownerOnly =>
      rcases fixedLength_or_select hn with hfixed | ⟨rfl | rfl, -⟩
      · exact exec_refused_of_not_owner h ((step3_of_fixedLength hfixed).trans (if_pos hlength)) (ownerOnly_of_code howner)
      · exact absurd howner (by decide)
      · exact absurd howner (by decide)
    case slotSetup =>
      rintro rfl
      refine ⟨fun hshort => badRequest (if_pos hshort), fun n k f rest hps hfit => ?_⟩
      exact exec_refused_of_not_owner h (by rw [hps]; exact setupLength_of_fit hfit) rfl
    case slotSetupMisfit =>
      rintro rfl n k f rest hps hmisfit
      exact badRequest (by rw [hps]; exact setupLength_of_misfit hmisfit)
    case slotLoad =>
      rintro rfl
      refine ⟨fun hlength => badRequest (if_neg ?_), fun hleast hmost => ?_⟩
      · rintro ⟨hleast, hmost⟩
        rcases hlength with rfl | hlong
        · exact absurd hleast (by decide)
        · omega
      · exact exec_refused_of_not_owner h (if_pos ⟨hleast, hmost⟩) rfl
    case select =>
      rintro hcode x y rfl
      refine ⟨?_, fun hundefined => exec_refused_of_step3 (st := .badValue) h ?_ (by decide)⟩
      · rintro rfl
        rcases hcode with rfl | rfl <;> exact exec_refused_of_not_owner h rfl rfl
      · rcases hcode with rfl | rfl <;> exact congrArg Handler.step3 (selectHandler_of_undefined hundefined)

end Sys2Proof.Machine
end

section
/-! SUPPORT and proof of the read requests (R60, R88, R153, R156, R166, R183 to R186): what each of them answers. -/

namespace Sys2Proof.Machine

/-! ## The answer to a read request (R137) -/

section
variable {f : Handler} {code : Byte} {e : Envelope} {s : State} {st : Status} {rs : List Byte}

/-- R137, R140: an accepted request that is open to any manager and changes nothing of the part. -/
theorem requestRow_reads (h : Accepts e s) (hstep : f.step3 = none) (hopen : f.ownerOnly = false) (hafter : f.after = noAfter)
    (hrun : f.run e s = (s, .plain st rs)) : requestRow f code e s = .next (answered e (code :: statusByte st :: rs) s) := by
  have ⟨_, _, _, _, _, hroom, _⟩ := h
  exact requestRow_of_runRequest h hafter ((runRequest_of_open hstep hopen).trans hrun) hroom rfl

end

/-! ## ENTRY-READ (R60) -/

section
variable {s : State} {i : Fin 64}

theorem runEntryRead_active (i : Fin 64) (s : State) : runEntryRead 0 (indexByte i) s
    = (s, .plain .done (entryReadResults s.engine s.engine.selector i)) := by
  simp only [runEntryRead, indexOfByte_indexByte, if_pos]

theorem runEntryRead_staging (h : s.engine.copy = .idle) : runEntryRead 1 (indexByte i) s
    = (s, .plain .done (entryReadResults s.engine s.engine.selector.other i)) := by
  have staging : ¬(1 : Byte) = 0 := by decide
  have idle : ¬s.engine.copying = true := by rw [MatchEngine.copying_eq_false h]; decide
  simp only [runEntryRead, indexOfByte_indexByte, if_neg staging, if_pos, if_neg idle]

theorem runEntryRead_busy (h : s.engine.copy ≠ .idle) : runEntryRead 1 (indexByte i) s = (s, .plain .busy []) := by
  have staging : ¬(1 : Byte) = 0 := by decide
  simp only [runEntryRead, indexOfByte_indexByte, if_neg staging, if_pos, if_pos (MatchEngine.copying_of_ne_idle h)]

theorem runEntryRead_of_bad_value {r b : Byte} (h : 2 ≤ r.toNat ∨ 64 ≤ b.toNat) :
    runEntryRead r b s = (s, .plain .badValue []) := by
  unfold runEntryRead
  split
  · rfl
  · rename_i hindex
    rcases h with hrole | hb
    · obtain ⟨h0, h1⟩ := (not_flag_iff r).mpr hrole
      rw [if_neg h0, if_neg h1]
    · rw [(indexOfByte_eq_none_iff b).mpr hb] at hindex
      cases hindex

end

/-! ## SLOT-READ and STATS-READ (R88, R105, R129, R166, R185, R186) -/

section
variable {n : Fin 32} {s : State}

theorem runReadPlain_of_body {body : SlotBody} (h : s.slots[n].body = body) : runReadPlain (slotByte n) s
    = (s, .plain .done ([slotByte n, kindByte body, flagByte s.slots[n].notify, s.slots[n].gen] ++ bytes16 s.slots[n].count
      ++ bodyResults s.holdList.length body)) := by
  simp only [runReadPlain, slotOfByte_slotByte, slotResults_of_body h]

theorem runReadPlain_of_bad_value {b : Byte} (h : 32 ≤ b.toNat) : runReadPlain b s = (s, .plain .badValue []) := by
  simp only [runReadPlain, (slotOfByte_eq_none_iff b).mpr h]

theorem AnswerSlot.fresh_eq (y : AnswerSlot) :
    y.fresh = decide (y.content ≠ .none ∧ (y.maxAge = 0 ∨ y.age < y.maxAge)) := by
  rw [Bool.eq_iff_iff, AnswerSlot.fresh_iff, decide_eq_true_iff]

theorem groupOf_eq_none {b : Byte} (h : 8 ≤ b.toNat) : groupOf b = none := by
  have above {k : Byte} (hk : k.toNat < 8) : b ≠ k := fun he => absurd h (not_le.mpr (he ▸ hk))
  simp only [groupOf, if_neg (above (k := 0) (by decide)), if_neg (above (k := 1) (by decide)),
    if_neg (above (k := 2) (by decide)), if_neg (above (k := 3) (by decide)), if_neg (above (k := 4) (by decide)),
    if_neg (above (k := 5) (by decide)), if_neg (above (k := 6) (by decide)), if_neg (above (k := 7) (by decide))]

theorem runStats_of_group {b : Byte} {g : Group} (h : groupOf b = some g) (clear : Bool) (s : State) : runStats clear b s
    = (if clear then clearGroup g s else s, .plain .done (b :: groupBytes g s)) := by
  simp only [runStats, h]

theorem runStats_of_bad_value {b : Byte} (h : 8 ≤ b.toNat) (clear : Bool) (s : State) :
    runStats clear b s = (s, .plain .badValue []) := by
  simp only [runStats, groupOf_eq_none h]

end

/-- Settles O43: each read by what its run answers. -/
theorem readsAnswerAndChangeNothing : Obligations.ReadsAnswerAndChangeNothing := by
  intro e s h m read stats
  have entry {r b : Byte} {st : Status} {rs : List Byte} (hrun : runEntryRead r b s = (s, .plain st rs)) :
      exec (.entryRead e [r, b]) s = .next (answered e (0x10 :: statusByte st :: rs) s) :=
    requestRow_reads (f := entryReadHandler [r, b]) h rfl rfl rfl hrun
  have slot {b : Byte} {st : Status} {rs : List Byte} (hrun : runReadPlain b s = (s, .plain st rs)) :
      exec (.slotReadWithoutHold e b) s = .next (answered e (0x22 :: statusByte st :: rs) s) :=
    requestRow_reads (f := slotReadPlainHandler b) h rfl rfl rfl hrun
  have group {b : Byte} {g : Group} (hg : groupOf b = some g) : stats b (groupBytes g s) :=
    requestRow_reads (f := statsPlainHandler b) h rfl rfl rfl (runStats_of_group hg false s)
  refine ⟨requestRow_reads (f := identHandler []) (st := .done) h rfl rfl rfl rfl,
    requestRow_reads (f := settingsReadHandler []) (st := .done) h rfl rfl rfl rfl,
    fun i => entry (runEntryRead_active i s), fun i hidle => entry (runEntryRead_staging hidle),
    fun i hbusy => entry (runEntryRead_busy hbusy), fun r b hbad => entry (runEntryRead_of_bad_value hbad),
    fun n => ?slots, fun b hbad => slot (runReadPlain_of_bad_value hbad),
    group (g := .portA) rfl, group (g := .portB) rfl, group (g := .dirAB) rfl, group (g := .dirBA) rfl,
    group (g := .proxy) rfl, group (g := .agent) rfl, group (g := .slots0) rfl, ?lastSlots, fun g hbad => ?badGroup⟩
  case slots =>
    refine ⟨fun hbody => slot (runReadPlain_of_body hbody), fun hbody => slot (runReadPlain_of_body hbody),
      fun c o hbody => slot (runReadPlain_of_body hbody), fun c o q k hbody => slot (runReadPlain_of_body hbody),
      fun y hbody => ?_, fun y hbody => slot (runReadPlain_of_body hbody)⟩
    rw [← y.fresh_eq]
    exact slot (runReadPlain_of_body hbody)
  case lastSlots =>
    have length : (s.slots.toList.drop 16).length = 16 := by simp
    have last : slotCountBytes 16 s.slots = ((s.slots.toList.drop 16).map (fun x => bytes16 x.count)).flatten := by
      rw [slotCountBytes, List.take_of_length_le length.le]
    rw [← last]
    exact group (g := .slots1) rfl
  case badGroup => exact requestRow_reads (f := statsPlainHandler g) h rfl rfl rfl (runStats_of_bad_value hbad false s)

end Sys2Proof.Machine
end

section
/-! SUPPORT and proof of NOTICE-ACK (R164, R183) and of STATS-READ with clear (R166, R177). -/

namespace Sys2Proof.Machine

/-! ## NOTICE-ACK (R164, R183) -/

section
variable {b0 b1 b2 b3 b4 : Byte} {s : State}

/-- The first operand of an append holds its high bits. -/
theorem toNat_append_lt_iff {m n k : Nat} (x : BitVec m) (y : BitVec n) : (x ++ y).toNat < 2 ^ (k + n) ↔ x.toNat < 2 ^ k := by
  have sum := (BitVec.toNat_append x y).trans (Nat.shiftLeft_add_eq_or_of_lt y.isLt x.toNat).symm
  rw [Nat.shiftLeft_eq] at sum
  have quotient : (x ++ y).toNat / 2 ^ n = x.toNat := by
    rw [sum, Nat.mul_comm, Nat.mul_add_div (Nat.two_pow_pos n), Nat.div_eq_of_lt y.isLt, Nat.add_zero]
  rw [Nat.pow_add, ← Nat.div_lt_iff_lt_mul (Nat.two_pow_pos n), quotient]

/-- R183: an event set has no bit among 34..39 where its first byte is below 4. -/
theorem eventNumber_lt_iff : (eventNumber b0 b1 b2 b3 b4).toNat < 2 ^ 34 ↔ b0.toNat < 4 :=
  (toNat_append_lt_iff (k := 26) _ b4).trans ((toNat_append_lt_iff (k := 18) _ b3).trans
    ((toNat_append_lt_iff (k := 10) _ b2).trans (toNat_append_lt_iff (k := 2) b0 b1)))

theorem runNoticeAck_of_set (h : b0.toNat < 4) : runNoticeAck [b0, b1, b2, b3, b4] s
    = ({ s with notice := ackEvents ((eventNumber b0 b1 b2 b3 b4).setWidth 34) s.notice },
      .plain .done (eventBytes (ackEvents ((eventNumber b0 b1 b2 b3 b4).setWidth 34) s.notice).pending)) :=
  if_pos (eventNumber_lt_iff.mpr h)

theorem runNoticeAck_of_bad_value (h : 4 ≤ b0.toNat) : runNoticeAck [b0, b1, b2, b3, b4] s = (s, .plain .badValue []) :=
  if_neg (mt eventNumber_lt_iff.mp (not_lt.mpr h))

/-- R164, R172: a pending event is left unless the set names it and its mark is clear. -/
theorem ackEvents_pending {w : Nat} (set : BitVec w) (x : NoticeUnit) {k : Nat} (hk : k < 34) :
    (ackEvents (set.setWidth 34) x).pending.getLsbD k = true
      ↔ x.pending.getLsbD k = true ∧ ¬(set.getLsbD k = true ∧ x.marks.getLsbD k = false) := by
  simp only [ackEvents, BitVec.getLsbD_and, BitVec.getLsbD_not, BitVec.getLsbD_setWidth, decide_eq_true hk, Bool.true_and,
    Bool.and_eq_true, Bool.not_eq_true', Bool.and_eq_false_imp, Bool.not_eq_false', not_and, Bool.not_eq_false]

end

/-! ## STATS-READ with clear (R166, R177) -/

/-- R166: each of the named slots counts from 0 again, and the others stand. -/
theorem clearCounts_getElem (lo hi : Nat) (v : Vector Slot 32) (m : Fin 32) :
    (clearCounts lo hi v)[m] = if lo ≤ m.val ∧ m.val < hi then { v[m] with count := 0 } else v[m] := by
  have cleared (l : List (Fin 32)) (w : Vector Slot 32) : (l.foldl (fun (w : Vector Slot 32) (n : Fin 32) =>
      if lo ≤ n.val ∧ n.val < hi then w.set n { w[n] with count := 0 } else w) w)[m]
        = if m ∈ l ∧ lo ≤ m.val ∧ m.val < hi then { w[m] with count := 0 } else w[m] := by
    induction l generalizing w with
    | nil => rw [if_neg (by simp)]; rfl
    | cons n l ih =>
      rw [List.foldl_cons, ih]
      by_cases hn : n = m
      · subst hn
        by_cases hin : lo ≤ n.val ∧ n.val < hi
        · simp [hin]
        · simp [hin]
      · have stands : (if lo ≤ n.val ∧ n.val < hi then w.set n { w[n] with count := 0 } else w)[m] = w[m] := by
          split
          · rw [Slot.getElem_set, if_neg hn]
          · rfl
        simp only [stands, List.mem_cons, Ne.symm hn, false_or]
  rw [clearCounts, cleared]
  simp only [mem_allSlots, true_and]

/-- R166: the clear of a group leaves the queues and what a restart waits for. -/
theorem clearGroup_keeps_reply (g : Group) (s : State) :
    (clearGroup g s).queues = s.queues ∧ restartDue (clearGroup g s) = restartDue s := by
  have recounted (v : Vector Slot 32) :
      { s with slots := v }.queues = s.queues ∧ restartDue { s with slots := v } = restartDue s := ⟨rfl, rfl⟩
  cases g with
  | portA | portB | dirAB | dirBA | proxy | agent => exact ⟨rfl, rfl⟩
  | slots0 | slots1 => exact recounted _

section
variable {e : Envelope} {s : State} {b : Byte} {g : Group}

/-- R166: the group is read, then cleared, and its reply comes after the clear. -/
theorem exec_statsReadWithClear (h : Accepts e s) (ho : FromOwner e s) (hg : groupOf b = some g) :
    exec (.statsReadWithClear e b) s = .next (answered e ([0x31, 0x00, b] ++ groupBytes g s) (clearGroup g s)) := by
  obtain ⟨hqueues, hdue⟩ := clearGroup_keeps_reply g s
  exact requestRow_answers (f := statsClearHandler b) h ho rfl rfl (runStats_of_group hg true s) hqueues hdue

end

/-- Settles O49: the ack bit by bit, and each group's clear after its reading. -/
theorem ackAndClearRemove : Obligations.AckAndClearRemove := by
  intro e s h ho
  have cleared {b : Byte} {g : Group} (hg : groupOf b = some g) := exec_statsReadWithClear h ho hg
  refine ⟨fun b0 b1 b2 b3 b4 hset => ?acked, fun b0 b1 b2 b3 b4 hset => ?badSet, cleared (g := .portA) rfl,
    cleared (g := .portB) rfl, cleared (g := .dirAB) rfl, cleared (g := .dirBA) rfl, cleared (g := .proxy) rfl,
    cleared (g := .agent) rfl, fun g hg => ?slots, fun g hbad => ?badGroup⟩
  case acked =>
    exact ⟨_, requestRow_answers (f := noticeAckHandler [b0, b1, b2, b3, b4]) h ho rfl rfl (runNoticeAck_of_set hset) rfl rfl,
      fun k hk => ackEvents_pending _ s.notice hk⟩
  case badSet =>
    exact requestRow_refuses (f := noticeAckHandler [b0, b1, b2, b3, b4]) h ho rfl rfl (runNoticeAck_of_bad_value hset)
  case slots =>
    obtain rfl | rfl := hg
    · refine ⟨_, cleared (g := .slots0) rfl, fun n => ?_⟩
      rw [clearCounts_getElem]
      simp
    · refine ⟨_, cleared (g := .slots1) rfl, fun n => ?_⟩
      rw [clearCounts_getElem]
      simp
  case badGroup => exact requestRow_refuses (f := statsClearHandler g) h ho rfl rfl (runStats_of_bad_value hbad true s)

end Sys2Proof.Machine
end

section
/-! SUPPORT and proof of SETTINGS-WRITE (R155, R157, R184): the record it carries, the bits of its faults, and the ports its new limits
take to FAULT (R21). -/

namespace Sys2Proof.Machine

/-! ## The settings record (R155, R183, R184) -/

section
variable {e : Envelope} {s : State} {ab ba : DefaultAction} {d0 d1 la lb h r a1 a0 : Byte} {age : Half}

theorem defaultOf_eq_none_iff (b : Byte) : defaultOf b = none ↔ 2 ≤ b.toNat := by
  rw [← not_flag_iff, defaultOf]
  split_ifs with h0 h1
  · simp [h0]
  · simp [h1]
  · exact iff_of_true rfl ⟨h0, h1⟩

theorem defaultOf_defaultByte (x : DefaultAction) : defaultOf (defaultByte x) = some x := by cases x <;> rfl

theorem defaultByte_toNat_lt (x : DefaultAction) : (defaultByte x).toNat < 2 := by cases x <;> decide

/-- R155: a field of a carried record lies outside its range. -/
def SettingsOutOfRange (d0 d1 la lb h r a1 a0 : Byte) : Prop :=
  2 ≤ d0.toNat ∨ 2 ≤ d1.toNat ∨ la.toNat < 4 ∨ lb.toNat < 4 ∨ h = 0 ∨ r = 0 ∨ half a1 a0 = 0

theorem settingsFaults_eq_zero_iff :
    settingsFaults [d0, d1, la, lb, h, r, a1, a0] = 0 ↔ ¬SettingsOutOfRange d0 d1 la lb h r a1 a0 := by
  simp [settingsFaults, SettingsOutOfRange, defaultOf_eq_none_iff, and_assoc]

/-- R157: the bit of each field is 1 where the field is out of range, and bit 7 is 0. -/
theorem settingsFaults_bits :
    let bits := settingsFaults [d0, d1, la, lb, h, r, a1, a0]
    (bits.getLsbD 0 ↔ 2 ≤ d0.toNat) ∧ (bits.getLsbD 1 ↔ 2 ≤ d1.toNat) ∧ (bits.getLsbD 2 ↔ la.toNat < 4)
    ∧ (bits.getLsbD 3 ↔ lb.toNat < 4) ∧ (bits.getLsbD 4 ↔ h = 0) ∧ (bits.getLsbD 5 ↔ r = 0)
    ∧ (bits.getLsbD 6 ↔ half a1 a0 = 0) ∧ bits.getLsbD 7 = false := by
  have bit (c : Prop) [Decidable c] (x : Byte) (i : Nat) : (if c then x else 0).getLsbD i = (decide c && x.getLsbD i) := by
    split <;> simp [*]
  simp only [settingsFaults, BitVec.getLsbD_or, bit]
  simp [defaultOf_eq_none_iff]

theorem runSettingsWrite_of_record (ha : 4 ≤ la.toNat) (hb : 4 ≤ lb.toNat) (hhold : h ≠ 0) (hrepeat : r ≠ 0) (hage : age ≠ 0) :
    let x : Settings :=
      { defaults := ⟨ab, ba⟩, bucketLimit := ⟨la, lb⟩, holdTime := h, repeatTime := r, ageLimit := age }
    runSettingsWrite (settingsBytes x) s = ({ s with settings := x }, .plain .done (settingsBytes x)) := by
  intro x
  have inRange : settingsFaults (settingsBytes x) = 0 := by
    refine settingsFaults_eq_zero_iff.mpr ?_
    simp only [SettingsOutOfRange, half_bytes16, not_or, not_le, not_lt]
    exact ⟨defaultByte_toNat_lt ab, defaultByte_toNat_lt ba, ha, hb, hhold, hrepeat, hage⟩
  have carried : settingsOf (settingsBytes x) = x := by
    simp [settingsOf, settingsBytes, bytes16, half_bytes16, defaultOf_defaultByte, x]
  rw [runSettingsWrite, if_pos inRange, carried]

/-- R137: an accepted request answered with a reply, with what follows the reply and the restart it may begin. -/
theorem requestRow_of_plain {f : Handler} {code : Byte} {t : State} {st : Status} {rs : List Byte} (hacc : Accepts e s)
    (hrun : runRequest f e s = (t, .plain st rs)) (hroom : (t.queues.get e.port).occupancy < 16) :
    requestRow f code e s
      = .next (settleRestart (f.after (.plain st rs) (answered e (code :: statusByte st :: rs) t))) := by
  rw [requestRow_of_accepts hacc, hrun]
  obtain ⟨-, -, hcopy, -⟩ := hacc
  rw [finishRequest_of_plain hcopy hroom]

/-- R157: a record in range is taken and answered, and the new limits then act. -/
theorem exec_settingsWrite_done {x : Settings} (hacc : Accepts e s) (ho : FromOwner e s)
    (hrun : runSettingsWrite (settingsBytes x) s = ({ s with settings := x }, .plain .done (settingsBytes x))) :
    exec (.settingsWrite e (settingsBytes x)) s
      = .next (settleRestart (compareLimits (answered e ([0x05, 0x00] ++ settingsBytes x) { s with settings := x }))) := by
  have ⟨_, _, _, _, _, hroom, _⟩ := hacc
  exact requestRow_of_plain (f := settingsWriteHandler (settingsBytes x)) hacc ((runRequest_of_owner rfl ho).trans hrun) hroom

end

/-! ## The new limits (R21) -/

section
variable {p : Port} {s : State}

/-- What each step of a fold keeps, the fold keeps. -/
theorem foldl_keeps {α β : Type} {f : State → α → State} (view : State → β) (h : ∀ s x, view (f s x) = view s) (l : List α)
    (s : State) : view (l.foldl f s) = view s := by
  induction l generalizing s with
  | nil => rfl
  | cons x l ih => exact (ih (f s x)).trans (h s x)

/-- R17, R28: ports that enter FAULT take the part out of the line, and the other ports, the settings and the restart's mark stand. -/
theorem enterFault_values (ps : List Port) (s : State) :
    (enterFault ps s).relay = .bypass ∧ (enterFault ps s).settings = s.settings
    ∧ (enterFault ps s).restartPending = s.restartPending
    ∧ ∀ q, (enterFault ps s).ports.get q = if q ∈ ps then faultedPort else s.ports.get q := by
  let view (t : State) := (t.relay, t.settings, t.restartPending, t.ports)
  let faulted := ps.foldl (fun t p => setFault p t) s
  let cut := ps.foldl (fun t p => cutFrame p t) faulted
  have noted : view (enterFault ps s) = view (outOfLine cut) :=
    foldl_keeps view (fun t q => by rw [addEvent_frame]) ps (leaveSynced ps faulted)
  have left : view (outOfLine cut) = (.bypass, cut.settings, cut.restartPending, cut.ports) := by rw [outOfLine_frame]
  have stood : view cut = view faulted := foldl_keeps view (fun t q => by rw [cutFrame_frame]) ps faulted
  have started : faulted = { s with ports := faulted.ports, portStats := faulted.portStats } := foldl_setFault_frame ps s
  simp only [view, left, Prod.mk.injEq] at noted stood
  obtain ⟨hrelay, hsettings, hpending, hports⟩ := noted
  obtain ⟨-, hsettings', hpending', hports'⟩ := stood
  refine ⟨hrelay, hsettings.trans (hsettings'.trans ?_), hpending.trans (hpending'.trans ?_), fun q => ?_⟩
  · rw [started]
  · rw [started]
  · rw [hports, hports']
    exact foldl_setFault_ports ps q s

theorem mem_overLimit_iff : p ∈ overLimit s ↔
    (s.ports.get p).state = .synced ∧ (s.settings.bucketLimit.get p).toNat ≤ (s.ports.get p).bucket := by
  have both : p ∈ [Port.a, .b] := by cases p <;> decide
  simp only [overLimit, List.mem_filter, both, true_and, Bool.and_eq_true, decide_eq_true_iff]

theorem compareLimits_of_none (h : ∀ p, p ∉ overLimit s) : compareLimits s = s := by
  simp only [compareLimits, List.eq_nil_iff_forall_not_mem.mpr h]

theorem compareLimits_of_some (h : p ∈ overLimit s) : compareLimits s = enterFault (overLimit s) s := by
  unfold compareLimits
  split
  · rename_i hnone
    rw [hnone] at h
    cases h
  · rfl

theorem compareLimits_values (s : State) :
    (compareLimits s).settings = s.settings ∧ (compareLimits s).restartPending = s.restartPending
    ∧ (∀ q, (compareLimits s).ports.get q = if q ∈ overLimit s then faultedPort else s.ports.get q)
    ∧ ((∃ q, q ∈ overLimit s) → (compareLimits s).relay = .bypass) := by
  by_cases h : ∃ q, q ∈ overLimit s
  · obtain ⟨q, hq⟩ := h
    obtain ⟨hrelay, hsettings, hpending, hports⟩ := enterFault_values (overLimit s) s
    rw [compareLimits_of_some hq]
    exact ⟨hsettings, hpending, hports, fun _ => hrelay⟩
  · rw [compareLimits_of_none (not_exists.mp h)]
    exact ⟨rfl, rfl, fun q => (if_neg (not_exists.mp h q)).symm, fun hq => absurd hq h⟩

end

/-- Settles O45: the record as it is carried, the ports at or above their new limits, and the bits of a refused record. -/
theorem settingsWriteReplacesRecord : Obligations.SettingsWriteReplacesRecord := by
  intro e s hacc ho
  refine ⟨fun ab ba la lb h r age ha hb hhold hrepeat hage => ?written,
    fun d0 d1 la lb h r a1 a0 hbad => ?refused⟩
  case written =>
    intro x record full
    let u := answered e ([0x05, 0x00] ++ record) { s with settings := x }
    have run : exec (.settingsWrite e record) s = .next (settleRestart (compareLimits u)) :=
      exec_settingsWrite_done (x := x) hacc ho (runSettingsWrite_of_record ha hb hhold hrepeat hage)
    have above (p : Port) : p ∈ overLimit u ↔ full p := mem_overLimit_iff
    rw [run]
    refine ⟨fun hnone => ?_, fun hpending => ?_⟩
    · have ⟨_, _, _, _, _, _, hdue⟩ := hacc
      rw [compareLimits_of_none fun p => mt (above p).mp (hnone p)]
      exact congrArg _ (settleRestart_of_not_due ((restartDue_answered _ _).trans hdue))
    · obtain ⟨settings, pending, ports, relay⟩ := compareLimits_values u
      refine ⟨compareLimits u, congrArg _ (settleRestart_of_not_pending (pending.trans hpending)), settings,
        fun p hp => ?_, fun p hp => ?_, fun ⟨p, hp⟩ => relay ⟨p, (above p).mpr hp⟩⟩
      · rw [ports, if_pos ((above p).mpr hp)]
        rfl
      · rw [ports, if_neg (mt (above p).mp hp)]
        rfl
  case refused =>
    have faults := mt settingsFaults_eq_zero_iff.mp (not_not.mpr hbad)
    have run : runRequest (settingsWriteHandler [d0, d1, la, lb, h, r, a1, a0]) e s
        = (s, .plain .badValue [settingsFaults [d0, d1, la, lb, h, r, a1, a0]]) :=
      (runRequest_of_owner rfl ho).trans (if_neg faults)
    exact ⟨_, requestRow_of_refusal (f := settingsWriteHandler [d0, d1, la, lb, h, r, a1, a0]) hacc run fun _ => rfl,
      settingsFaults_bits⟩

end Sys2Proof.Machine
end

section
/-! SUPPORT of RESTART (R168, R169): the reply its mark names, and the restart that the reply's end and its age-out begin. -/

namespace Sys2Proof.Machine

/-! ## The reply a restart waits for (R168, R169) -/

section
variable {p : Port} {e : Envelope} {s : State}

/-- R169: the restart is due where the mark is set and its reply is neither queued nor at an output. -/
theorem restartDue_iff (p : Port) : restartDue s = true ↔ s.restartPending = true
    ∧ (∀ q, ∀ x ∈ (s.queues.get q).entries, x.body.isNamed = false)
    ∧ (s.paths.get (dirOut p)).tx.isNamed = false ∧ (s.paths.get (dirIn p)).tx.isNamed = false := by
  have unqueued : (∀ q, ∀ x ∈ (s.queues.get q).entries, x.body.isNamed = false)
      ↔ (s.queues.get p).entries.any (·.body.isNamed) = false
        ∧ (s.queues.get (otherPort p)).entries.any (·.body.isNamed) = false := by
    simp only [List.any_eq_false, Bool.not_eq_true]
    refine ⟨fun h => ⟨h p, h (otherPort p)⟩, fun ⟨here, there⟩ q => ?_⟩
    cases p <;> cases q <;> assumption
  rw [restartDue_eq_namedAt p, unqueued]
  simp only [namedAt, dirOut_otherPort, Bool.and_eq_true, Bool.not_eq_true', Bool.or_eq_false_iff]
  tauto

theorem exec_restartBegin (hreset : s.resetPin = false) (hpending : s.restartPending = true) :
    exec .restartBegin s = .next (restartBegin s) := if_pos (by rw [hreset, hpending]; rfl)

/-- R169, R170: an event that leaves the restart due ends as RESTART_BEGIN does. -/
theorem settleRestart_eq_exec (hreset : s.resetPin = false) (hdue : restartDue s = true) :
    .next (settleRestart s) = exec .restartBegin s := by
  obtain ⟨hpending, -⟩ := (restartDue_iff .a).mp hdue
  rw [exec_restartBegin hreset hpending, settleRestart, if_pos hdue]

/-- R168: the first RESTART's mark names its own reply. -/
theorem exec_restart_names_reply (h : Accepts e s) (ho : FromOwner e s) (hpending : s.restartPending = false) :
    exec (.restart e []) s = .next { answered e [0x3F, 0x00] s with
      restartPending := true
      queues := s.queues.set e.port { s.queues.get e.port with entries := (s.queues.get e.port).entries
        ++ [{ body := .mreply e.src s.ownAddr e.seq [0x3F, 0x00] true, time := s.timestamp }] } } := by
  have run : runRequest (restartHandler []) e s = ({ s with restartPending := true }, .reply .done [] true) := by
    rw [runRequest_of_owner rfl ho]
    simp only [restartHandler, hpending]
    rfl
  refine (requestRow_of_accepts (f := restartHandler []) (code := 0x3F) h).trans ?_
  obtain ⟨-, -, hcopy, -, -, hroom, -⟩ := h
  rw [run]
  simp only [finishRequest, placeReply, countAnswer_eq, recordRequest_of_no_copy hcopy]
  rw [place_of_room (by exact hroom)]
  refine congrArg _ (settleRestart_of_not_due (Bool.eq_false_iff.mpr fun hdue => ?_))
  obtain ⟨-, unqueued, -⟩ := (restartDue_iff e.port).mp hdue
  have reply := unqueued e.port { body := .mreply e.src s.ownAddr e.seq [0x3F, 0x00] true, time := s.timestamp }
  simp [restartHandler, noAfter, statusByte, EntryBody.isNamed] at reply

/-- R168: a further RESTART leaves the mark with the reply it names. -/
theorem exec_restart_of_pending (h : Accepts e s) (ho : FromOwner e s) (hpending : s.restartPending = true) :
    exec (.restart e []) s = .next (answered e [0x3F, 0x00] s) := by
  have marked : { s with restartPending := true } = s := by rw [← hpending]
  refine requestRow_answers (f := restartHandler []) (t := s) (st := .done) h ho rfl rfl ?_ rfl rfl
  simp only [restartHandler, hpending, marked]
  rfl

end

/-! ## The end symbol of the reply (R169) -/

section
variable {p : Port} {s : State} (hreset : s.resetPin = false) (hpending : s.restartPending = true)
  (hin : (s.paths.get (dirIn p)).tx.isNamed = false) (hqueues : ∀ q, ∀ x ∈ (s.queues.get q).entries, x.body.isNamed = false)
include hpending hin hqueues

/-- R169: with its reply sent from a port the restart is due. -/
theorem restartDue_of_sent (x : Symbol) (n : Nat) (fs : List StoredFrame) :
    restartDue (withSent p x (.between n) fs s) = true := by
  refine (restartDue_iff p).mpr ⟨hpending, hqueues, ?_, ?_⟩
  · simp only [withSent, PerDir.get_set_self]
    rfl
  · simp only [withSent, PerDir.get_set_of_ne _ _ (dirIn_ne_dirOut p).symm]
    exact hin

include hreset

theorem exec_transmitSymbol_ends_reply (hrelay : s.relay = .relay ∨ s.relay = .fallback)
    (htx : (s.paths.get (dirOut p)).tx = .injection true [] true) :
    exec (.transmitSymbol p) s = exec .restartBegin { s with
      paths := s.paths.set (dirOut p) { s.paths.get (dirOut p) with tx := .between 0, line := some .eof } } := by
  rw [exec_transmitSymbol hreset, transmit_of_relays (relays_iff.mpr hrelay), arbitrate_of_busy (by rw [htx]; rfl),
    sendNext_injection_end htx]
  exact settleRestart_eq_exec (s := sendSymbol p .eof (.between 0) s) hreset
    (restartDue_of_sent hpending hin hqueues .eof 0 _)

theorem exec_transmitSymbol_closes_reply (hrelay : s.relay = .bypass) (htx : (s.paths.get (dirOut p)).tx = .closing true) :
    exec (.transmitSymbol p) s = exec .restartBegin { s with
      paths := s.paths.set (dirOut p) { s.paths.get (dirOut p) with tx := .between 2, line := some .abort }
      bypassPin := s.bypassPin || !(s.paths.get (dirIn p)).tx.isClosing } := by
  rw [exec_transmitSymbol_in_bypass hreset hrelay, sendInBypass_of_closing (by rw [htx]; rfl)]
  exact settleRestart_eq_exec (s := { withSent p .abort (.between 2) (s.paths.get (dirOut p)).store s with
      bypassPin := s.bypassPin || !(s.paths.get (dirIn p)).tx.isClosing }) hreset
    (restartDue_of_sent hpending hin hqueues .abort 2 _)

end

/-! ## The age-out of the reply (R123, R169) -/

section
variable {p : Port} {s t : State}

theorem unnamed_of_filter {f : QEntry → Bool} {l : List QEntry} (h : ∀ x ∈ l, x.body.isNamed = true → f x = true) :
    ∀ x ∈ l.filter (fun x => !f x), x.body.isNamed = false := by
  intro x hx
  obtain ⟨hmem, hkept⟩ := List.mem_filter.mp hx
  refine Bool.eq_false_iff.mpr fun hnamed => ?_
  rw [h x hmem hnamed] at hkept
  cases hkept

/-- R123, R169: a queue whose named entries are all over age holds none after its age-out. -/
theorem restartDue_ageOutQueue_of_old (hpending : s.restartPending = true) (htx : ∀ d, (s.paths.get d).tx.isNamed = false)
    (hold : ∀ x ∈ (s.queues.get p).entries, x.body.isNamed = true → x.overAge s.timestamp s.settings.ageLimit = true)
    (hother : ∀ x ∈ (s.queues.get (otherPort p)).entries, x.body.isNamed = false) : restartDue (ageOutQueue p s) = true := by
  refine (restartDue_iff p).mpr ⟨hpending, fun q x hx => ?_, htx _, htx _⟩
  simp only [ageOutQueue, State.bumpDir_queues, State.setQueue_queues, PerPort.get_set] at hx
  split at hx
  · exact unnamed_of_filter hold x hx
  · have other : q = otherPort p := by cases p <;> cases q <;> first | rfl | contradiction
    exact hother x (other ▸ hx)

theorem exec_queueAgeOut_of_old (hreset : s.resetPin = false) (hdue : restartDue (ageOutQueue p s) = true)
    (hpending : s.restartPending = true) : exec (.queueAgeOut p) s = exec .restartBegin s := by
  have due : restartDue (ageOut p s) = true := by
    unfold ageOut
    split
    · exact (restartDue_offerNotice _).trans hdue
    · exact hdue
  refine (if_neg (by rw [hreset]; decide)).trans ?_
  rw [settleRestart, if_pos due, ageOut_frame, restartBegin_queues, exec_restartBegin hreset hpending]

/-- The entries of a port's queue that a restart waits for. -/
def namedEntries (p : Port) (s : State) : List QEntry := (s.queues.get p).entries.filter (·.body.isNamed)

theorem namedEntries_place {b : EntryBody} (hb : b.isNamed = false) (q p : Port) (s : State) :
    namedEntries q (place p b s) = namedEntries q s := by
  unfold place
  split
  · refine PerPort.map_get_set (fun x : Queue => x.entries.filter (·.body.isNamed)) s.queues ?_ q
    simp [hb]
  · rfl

theorem namedEntries_offerNotice (q : Port) (s : State) : namedEntries q (offerNotice s) = namedEntries q s := by
  obtain h | ⟨o, -, h⟩ := offerNotice_cases s
  · rw [h]
  · rw [h, namedEntries_place rfl]

theorem namedEntries_slotEvent (q : Port) (n : Fin 32) (s : State) : namedEntries q (slotEvent n s) = namedEntries q s := by
  unfold slotEvent
  split
  · exact namedEntries_offerNotice q _
  · rfl

theorem namedEntries_fireBeacons (q : Port) (c : Nat) (due : List (Fin 32)) (s : State) :
    namedEntries q (fireBeacons c due s) = namedEntries q s := by
  have expires (n : Fin 32) (t : State) (r : Port) : namedEntries q (expireOn n r t) = namedEntries q t := by
    unfold expireOn lateExpiry
    split
    · exact namedEntries_place rfl q r t
    · exact namedEntries_slotEvent q n _
  refine foldl_keeps (namedEntries q) (fun t n => ?_) _ s
  unfold fireBeacon
  split
  · exact foldl_keeps (namedEntries q) (expires n) _ t
  · rfl

theorem namedEntries_tickCoolDown (q p : Port) (s : State) : namedEntries q (tickCoolDown p s) = namedEntries q s := by
  unfold tickCoolDown
  split
  · rfl
  · split
    · exact namedEntries_offerNotice q _
    · rfl

theorem namedEntries_tickSettle (q : Port) (s : State) : namedEntries q (tickSettle s) = namedEntries q s := by
  unfold tickSettle settleExpiry
  split
  · rfl
  · split
    · split <;> exact namedEntries_offerNotice q _
    · rfl

/-- R123, R169: the mark is set, and the replies it may name all stand in the queues, over age. -/
structure ReplyOverAge (s : State) : Prop where
  pending : s.restartPending = true
  tx      : ∀ d, (s.paths.get d).tx.isNamed = false
  old     : ∀ q, ∀ x ∈ namedEntries q s, x.overAge s.timestamp s.settings.ageLimit = true

theorem ReplyOverAge.of_kept (h : ReplyOverAge s) (hqueues : ∀ q, namedEntries q t = namedEntries q s) (ht : t = { t with
    restartPending := s.restartPending, paths := s.paths, timestamp := s.timestamp, settings := s.settings }) :
    ReplyOverAge t := by
  rw [ht]
  exact { pending := h.pending, tx := h.tx, old := fun q x hx => h.old q x ((congrArg (x ∈ ·) (hqueues q)).mp hx) }

theorem ReplyOverAge.restartDue_agedOut (h : ReplyOverAge s) : restartDue (agedOut s) = true := by
  have old (q : Port) : ∀ x ∈ (s.queues.get q).entries, x.body.isNamed = true →
      x.overAge s.timestamp s.settings.ageLimit = true :=
    fun x hx hnamed => h.old q x (List.mem_filter.mpr ⟨hx, hnamed⟩)
  have both : restartDue (ageOutQueue .b (ageOutQueue .a s)) = true :=
    restartDue_ageOutQueue_of_old (p := .b) (s := ageOutQueue .a s) h.pending h.tx (old .b) (unnamed_of_filter (old .a))
  rw [← ageOutBoth_eq_agedOut, ageOutBoth]
  split
  · exact (restartDue_offerNotice _).trans both
  · exact both

/-- R34: a 1 ms tick ages out after its timers have counted; beacon timers may act after that. -/
theorem tick1ms_ages_out {P : State → Prop} (start : P (tickCoolDown .b (tickCoolDown .a (countTick s))))
    (chosen : ∀ t k, P t → P { t with freeCount := k }) (fire : ∀ c due t, P t → P (fireBeacons c due t))
    (settle : ∀ t, P t → P (tickSettle t)) :
    ∃ u, P u ∧ (tick1ms s = agedOut u ∨ ∃ c due, tick1ms s = fireBeacons c due (agedOut u)) := by
  unfold tick1ms
  simp only [ageOutBoth_eq_agedOut]
  split
  · exact ⟨_, settle _ start, .inl rfl⟩
  · split
    · exact ⟨_, settle _ (fire _ _ _ (chosen _ _ start)), .inl rfl⟩
    · exact ⟨_, settle _ (chosen _ _ start), .inr ⟨_, _, rfl⟩⟩

theorem ReplyOverAge.restartDue_tick1ms (h : ReplyOverAge s) : restartDue (tick1ms s) = true := by
  have counted : ReplyOverAge (tickCoolDown .b (tickCoolDown .a (countTick s))) :=
    h.of_kept (fun q => (namedEntries_tickCoolDown q .b _).trans (namedEntries_tickCoolDown q .a _))
      (by rw [tickCoolDown_frame, tickCoolDown_frame]; rfl)
  obtain ⟨u, hu, htick⟩ := tick1ms_ages_out (P := ReplyOverAge) counted (fun t k ht => ht.of_kept (fun _ => rfl) rfl)
    (fun c due t ht => ht.of_kept (fun q => namedEntries_fireBeacons q c due t) (by rw [fireBeacons_frame]))
    (fun t ht => ht.of_kept (fun q => namedEntries_tickSettle q t) (by rw [tickSettle_frame]))
  obtain htick | ⟨c, due, htick⟩ := htick
  · rw [htick]
    exact hu.restartDue_agedOut
  · obtain ⟨fired, -⟩ := restartStands_fireBeacons c due (agedOut u)
    rw [htick, fired]
    exact hu.restartDue_agedOut

end

end Sys2Proof.Machine
end

section
/-! SUPPORT and proof of RESTART (R28, R168 to R170): the loss of its reply with the line, and what the restart leaves of each block. -/

namespace Sys2Proof.Machine

/-! ## A port's way out of the line with a restart waiting (R28, R169) -/

/-- R28: a port has left SYNCED and the other stands; the relay state, the transmitters and what the sessions hold are as they were. -/
structure LeavesSynced (p : Port) (s u : State) : Prop where
  relay     : u.relay = s.relay
  bypassPin : u.bypassPin = s.bypassPin
  pending   : u.restartPending = s.restartPending
  owner     : u.owner = s.owner
  cache     : u.cache = s.cache
  notice    : u.notice = s.notice
  tx        : ∀ d, (u.paths.get d).tx = (s.paths.get d).tx
  synced    : ∀ q, (u.ports.get q).state = .synced ↔ q ≠ p

section
variable {p : Port} {s u : State}

/-- R17: a loss of signal takes a SYNCED port out of the line, its frame in progress cut off. -/
theorem leavesSynced_lostPort (hsynced : ∀ q, (s.ports.get q).state = .synced) :
    LeavesSynced p s (cutFrame p (lostPort p s)) := by
  obtain ⟨htraffic, -⟩ := cutFrame_traffic p (lostPort p s)
  have frame := cutFrame_frame p (lostPort p s)
  refine { relay := by rw [frame]; rfl, bypassPin := by rw [frame]; rfl, pending := by rw [frame]; rfl, owner := by rw [frame]; rfl,
           cache := by rw [frame]; rfl, notice := by rw [frame]; rfl, tx := fun d => ?_, synced := fun q => ?_ }
  · obtain ⟨-, -, stands⟩ := htraffic d
    exact stands
  · rw [frame]
    exact decide_eq_true_iff.symm.trans (lostPort_state p q (hsynced q))

/-- R20, R21: a code error that fills the bucket takes a SYNCED port to FAULT. -/
theorem leavesSynced_setFault (hsynced : ∀ q, (s.ports.get q).state = .synced) :
    LeavesSynced p s (setFault p (erredInGap p s)) := by
  rw [setFault_erredInGap]
  refine { relay := rfl, bypassPin := rfl, pending := rfl, owner := rfl, cache := rfl, notice := rfl, tx := fun _ => rfl,
           synced := fun q => ?_ }
  simp only [PerPort.get_set]
  split
  · rename_i hq
    exact iff_of_false nofun (not_not.mpr hq.symm)
  · exact iff_of_true (hsynced q) (Ne.symm ‹_›)

/-- R12, R17, R20, R28: the two events that end a reply with the line. -/
theorem exec_leaves_synced {c : Instr} (hreset : s.resetPin = false) (hrelay : s.relay ≠ .bypass)
    (hsynced : ∀ q, (s.ports.get q).state = .synced)
    (hc : c = .lossOfSignal p ∨ c = .codeError p ∧ (s.rx.get p).delim = .gap
      ∧ (s.settings.bucketLimit.get p).toNat ≤ (s.ports.get p).bucket + 1) :
    ∃ u, exec c s = .next (settleRestart (noted (portBit p) (enterBypass u))) ∧ LeavesSynced p s u
      ∧ u.signal = if c = .lossOfSignal p then s.signal.set p false else s.signal := by
  rcases hc with rfl | ⟨rfl, hgap, hfull⟩
  · have left := leavesSynced_lostPort (p := p) hsynced
    refine ⟨cutFrame p (lostPort p s), ?_, left, ?_⟩
    · rw [exec_lossOfSignal_of_synced hreset (hsynced p), outOfLine_of_ne_bypass (left.relay ▸ hrelay)]
    · rw [cutFrame_frame, if_pos rfl]
      rfl
  · have left := leavesSynced_setFault (p := p) hsynced
    refine ⟨setFault p (erredInGap p s), ?_, left, (if_neg nofun).symm⟩
    rw [exec_codeError_of_full hreset (hsynced p) hgap hfull, outOfLine_of_ne_bypass (left.relay ▸ hrelay)]

/-- R28: at the port that has left SYNCED nothing is closed: its frame is cut off or discarded. -/
theorem cutTx_of_not_synced {x : Tx} (h : ∀ m, x ≠ .closing m) : cutTx false x = .between 2 := by
  match x with
  | .closing m => exact absurd rfl (h m)
  | .through true | .through false | .injection true _ _ | .injection false _ _ | .between _ => rfl

/-- R28: a named reply is left to its closing ABORT only on a port still SYNCED, with its SOF sent. -/
theorem cutTx_isNamed {x : Tx} (h : ∀ m, x ≠ .closing m) (hreply : ∀ bs, x ≠ .injection true bs true) :
    (cutTx true x).isNamed = false := by
  match x with
  | .closing m => exact absurd rfl (h m)
  | .injection true bs true => exact absurd rfl (hreply bs)
  | .through true | .through false | .injection true _ false | .injection false _ _ | .between _ => rfl

section
variable (h : LeavesSynced p s u) (hclosing : ∀ d m, (s.paths.get d).tx ≠ .closing m)
include h

/-- R28: what the entry to BYPASS leaves as it was, and the BYPASS output. -/
theorem LeavesSynced.enterBypass_values : (enterBypass u).relay = .bypass
    ∧ (enterBypass u).bypassPin = (s.bypassPin || decide (s.relay = .joining)) ∧ (enterBypass u).signal = u.signal
    ∧ (enterBypass u).restartPending = s.restartPending ∧ (enterBypass u).owner = s.owner ∧ (enterBypass u).cache = s.cache
    ∧ (enterBypass u).notice = s.notice := by
  rw [enterBypass_frame, enterBypass_bypassPin, h.bypassPin, h.relay]
  exact ⟨rfl, rfl, rfl, h.pending, h.owner, h.cache, h.notice⟩

theorem LeavesSynced.tx_in : ((enterBypass u).paths.get (dirIn p)).tx = cutTx true (s.paths.get (dirIn p)).tx := by
  have tx := enterBypass_tx u (otherPort p)
  rwa [dirOut_otherPort, decide_eq_true ((h.synced _).mpr (otherPort_ne p)), h.tx] at tx

/-- R28, R169: the reply under way on the other port is ended by its closing ABORT, for which the restart waits. -/
theorem LeavesSynced.restart_waits {bs : List Byte} (hreply : (s.paths.get (dirIn p)).tx = .injection true bs true) :
    settleRestart (noted (portBit p) (enterBypass u)) = noted (portBit p) (enterBypass u)
    ∧ ((enterBypass u).paths.get (dirIn p)).tx = .closing true := by
  have closing : ((enterBypass u).paths.get (dirIn p)).tx = .closing true := by
    rw [h.tx_in, hreply]
    rfl
  refine ⟨settleRestart_of_not_due (Bool.eq_false_iff.mpr fun hdue => ?_), closing⟩
  obtain ⟨-, -, -, unnamed⟩ := (restartDue_iff p).mp hdue
  rw [noted, closing] at unnamed
  cases unnamed

include hclosing

theorem LeavesSynced.tx_out : ((enterBypass u).paths.get (dirOut p)).tx = .between 2 := by
  rw [enterBypass_tx, decide_eq_false (mt (h.synced p).mp (not_not.mpr rfl)), h.tx]
  exact cutTx_of_not_synced (hclosing _)

/-- R169: withdrawn, cut off or discarded, the reply is gone and the restart begins [log 34]. -/
theorem LeavesSynced.restart_begins (hpending : s.restartPending = true)
    (hreply : ∀ bs, (s.paths.get (dirIn p)).tx ≠ .injection true bs true) :
    settleRestart (noted (portBit p) (enterBypass u)) = restartBegin (noted (portBit p) (enterBypass u)) := by
  obtain ⟨-, -, -, pending, -⟩ := h.enterBypass_values
  have due : restartDue (noted (portBit p) (enterBypass u)) = true := by
    refine (restartDue_iff p).mpr ⟨pending.trans hpending, fun q x hx => ?_, ?_, ?_⟩
    · simp only [noted, enterBypass_queues, List.not_mem_nil] at hx
    · rw [noted, h.tx_out hclosing]
      rfl
    · rw [noted, h.tx_in]
      exact cutTx_isNamed (hclosing _) hreply
  rw [settleRestart, if_pos due]

end

end

/-! ## What a restart leaves (R170) -/

theorem restartBegin_paths (d : Dir) (s : State) : (restartBegin s).paths.get d = restartPath (s.paths.get d) := by
  cases d <;> rfl

theorem restartBegin_port (p : Port) (s : State) : (restartBegin s).ports.get p = restartPort (s.signal.get p) := by
  cases p <;> rfl

theorem restartBegin_rx (p : Port) (s : State) : (restartBegin s).rx.get p = .reset := by cases p <;> rfl

theorem restartBegin_queue (p : Port) (s : State) : (restartBegin s).queues.get p = { entries := [], held := false } := by
  cases p <;> rfl

theorem restartBegin_inbox (p : Port) (s : State) : (restartBegin s).inbox.get p = none := by cases p <;> rfl

/-- R32: a frame whose SOF has been sent is ended by ABORT, and one not yet begun is gone. -/
theorem restartPath_tx_of_sending {x : RelayPath} {sent m : Bool} {bytes : List Byte}
    (h : x.tx = .through sent ∨ x.tx = .injection sent bytes m) :
    (restartPath x).tx = if sent then .closing false else .between 2 := by
  cases sent with
  | true => rcases h with h | h <;> simp only [restartPath, h, if_pos]
  | false =>
    rcases h with h | h
    · simp only [restartPath, h]
      rfl
    · simp only [restartPath, h]
      rfl

theorem restartPath_tx_of_between {x : RelayPath} {n : Nat} (h : x.tx = .between n) : (restartPath x).tx = .between 2 := by
  simp only [restartPath, h]
  rfl

/-- R63: every hit count is 0 and the entries stand. -/
theorem restartEngine_bank (k : BankId) (i : Fin 64) (m : MatchEngine) :
    ((restartEngine m).bank k)[i] = { (m.bank k)[i] with hits := 0 } := by
  have zeroed (b : Bank) : (zeroHits b)[i] = { b[i] with hits := 0 } := getElem_mapVec ..
  cases k
  · exact zeroed m.bank0
  · exact zeroed m.bank1

/-- R71: no copy, nothing abandoned. -/
theorem restartEngine_of_idle {m : MatchEngine} (h : m.copy = .idle) :
    (restartEngine m).stagingGen = m.stagingGen ∧ (restartEngine m).incomplete = m.incomplete := by
  simp only [restartEngine, MatchEngine.copying_eq_false h, Bool.or_false]
  exact ⟨rfl, trivial⟩

/-- R71: a running copy is abandoned: the staging bank is marked and its generation rises. -/
theorem restartEngine_of_copying {m : MatchEngine} (h : m.copy ≠ .idle) :
    (restartEngine m).stagingGen = m.stagingGen + 1 ∧ (restartEngine m).incomplete = true := by
  simp only [restartEngine, MatchEngine.copying_of_ne_idle h, Bool.or_true]
  exact ⟨rfl, trivial⟩

/-- R99, R117, R133: the configuration of a slot stands and what it holds is gone. -/
theorem restartSlot_values (x : Slot) :
    (restartSlot x).notify = x.notify ∧ (restartSlot x).gen = x.gen ∧ (restartSlot x).count = 0
    ∧ (x.body = .unused → (restartSlot x).body = .unused)
    ∧ (∀ c, x.body = .capture c → (restartSlot x).body = .capture .empty)
    ∧ (∀ y bs, x.body = .answer y → y.content = .loaded bs → (restartSlot x).body = .answer { y with age := 0 })
    ∧ (∀ y, x.body = .answer y → (∀ bs, y.content ≠ .loaded bs) →
        (restartSlot x).body = .answer { y with content := .none, age := 0 })
    ∧ (∀ y, x.body = .beacon y → (restartSlot x).body = .beacon { y with timer := none }) := by
  obtain ⟨notify, gen, count, body⟩ := x
  match body with
  | .unused => exact ⟨rfl, rfl, rfl, fun _ => rfl, nofun, nofun, nofun, nofun⟩
  | .capture c => exact ⟨rfl, rfl, rfl, nofun, fun _ _ => rfl, nofun, nofun, nofun⟩
  | .beacon y =>
    refine ⟨rfl, rfl, rfl, nofun, nofun, nofun, nofun, ?_⟩
    rintro _ ⟨⟩
    rfl
  | .answer ⟨maxAge, .loaded bs, age⟩ =>
    refine ⟨rfl, rfl, rfl, nofun, nofun, ?_, ?_, nofun⟩
    · rintro _ _ ⟨⟩ -
      rfl
    · rintro _ ⟨⟩ hloaded
      exact absurd rfl (hloaded bs)
  | .answer ⟨maxAge, .learned bs, age⟩ | .answer ⟨maxAge, .none, age⟩ =>
    refine ⟨rfl, rfl, rfl, nofun, nofun, ?_, ?_, nofun⟩
    · rintro _ _ ⟨⟩ ⟨⟩
    · rintro _ ⟨⟩ -
      rfl

/-- Settles O50: the mark, each event that ends the reply, and the values of the restart that each of them begins. -/
theorem restartWaitsThenClears : Obligations.RestartWaitsThenClears := by
  refine ⟨fun e s h ho hpending => exec_restart_names_reply h ho hpending,
    fun e s h ho hpending => exec_restart_of_pending h ho hpending,
    fun p s hreset hpending hrelay htx hin hqueues =>
      exec_transmitSymbol_ends_reply hreset hpending hin hqueues hrelay htx,
    fun p s hreset hpending hrelay htx hin hqueues =>
      exec_transmitSymbol_closes_reply hreset hpending hin hqueues hrelay htx,
    fun s hreset hpending htx => ⟨fun p hold hother => ?ageOut, fun hdue hold => ?tick⟩,
    fun p c s hreset hpending hrelay hsynced hclosing hc => ?bypass, fun s hreset hpending => ?begin,
    fun s hpending => if_neg (by rw [hpending]; exact Bool.false_ne_true)⟩
  case ageOut =>
    refine exec_queueAgeOut_of_old hreset (restartDue_ageOutQueue_of_old hpending htx (fun x hx hnamed => ?_) hother) hpending
    exact decide_eq_true (hold x hx hnamed)
  case tick =>
    have due : ReplyOverAge { s with due := { s.due with one := false } } := by
      refine { pending := hpending, tx := htx, old := fun q x hx => ?_ }
      obtain ⟨hmem, hnamed⟩ := List.mem_filter.mp hx
      exact decide_eq_true (hold q x hmem hnamed)
    rw [exec_tick1ms_of_due hreset hdue, settleRestart, if_pos due.restartDue_tick1ms]
    exact ⟨_, rfl, rfl, rfl, rfl, rfl, rfl, rfl, fun p => restartBegin_queue p _⟩
  case bypass =>
    obtain ⟨u, hrun, left, hsignal⟩ := exec_leaves_synced hreset hrelay hsynced hc
    obtain ⟨relay, pin, signal, pending, owner, cache, notice⟩ := left.enterBypass_values
    have queues := enterBypass_queues u
    have out := left.tx_out hclosing
    have begins := left.restart_begins hclosing hpending
    have waits (bs : List Byte) := left.restart_waits (bs := bs)
    rw [← signal] at hsignal
    generalize enterBypass u = v at *
    by_cases hreply : ∃ bs, (s.paths.get (dirIn p)).tx = .injection true bs true
    · obtain ⟨bs, hreply⟩ := hreply
      obtain ⟨stands, closing⟩ := waits bs hreply
      refine ⟨noted (portBit p) v, by rw [hrun, stands], relay, pin, hsignal, queues, out,
        fun hnone => absurd hreply (hnone bs), fun _ _ => ⟨pending.trans hpending, owner, cache, closing, ?_⟩⟩
      simp only [noted, notice]
    · have hnone := not_exists.mp hreply
      refine ⟨restartBegin (noted (portBit p) v), by rw [hrun, begins hnone], rfl, ?_, hsignal, fun q => restartBegin_queue q _, ?_,
        fun _ => ⟨rfl, rfl, rfl, rfl, rfl, rfl, rfl, fun q => restartBegin_port q _⟩, fun bs hbs => absurd hbs (hnone bs)⟩
      · simp only [restartBegin, noted, pin, relay]
        exact Bool.or_false _
      · rw [restartBegin_paths]
        exact restartPath_tx_of_between out
  case begin =>
    refine ⟨restartBegin s, exec_restartBegin hreset hpending, rfl, rfl, rfl, rfl, rfl, rfl, rfl, rfl, rfl, rfl, rfl, rfl,
      fun p => restartBegin_port p s, fun p => restartBegin_rx p s, fun p => restartBegin_queue p s,
      fun p => restartBegin_inbox p s, fun d => ?_, fun d sent bytes m htx => ?_, fun k i => restartEngine_bank k i s.engine,
      rfl, rfl, restartEngine_of_idle, restartEngine_of_copying, fun n => ?_, rfl, rfl, rfl, rfl, rfl, rfl, rfl, rfl⟩
    · obtain ⟨store, flight⟩ := restartPath_idle (s.paths.get d)
      rw [restartBegin_paths]
      exact ⟨store, flight, restartPath_highWater _⟩
    · rw [restartBegin_paths]
      exact restartPath_tx_of_sending htx
    · have slot : (restartBegin s).slots[n] = restartSlot s.slots[n] := getElem_mapVec ..
      rw [slot]
      exact restartSlot_values s.slots[n]

end Sys2Proof.Machine
end

section
/-! SUPPORT and proof of the offer of a NOTICE (R118, R120, R173, R176): the condition it is made under, and the place it takes. -/

namespace Sys2Proof.Machine

/-! ## The offer of a NOTICE (R120, R173, R176) -/

section
variable {s : State}

/-- R120: no NOTICE entry stands in either queue. -/
theorem noticeQueued_eq_false_iff : noticeQueued s = false ↔ ∀ p, ∀ x ∈ (s.queues.get p).entries, x.body ≠ .notice := by
  simp only [noticeQueued, isFrom_notice, Bool.or_eq_false_iff, List.any_eq_false, decide_eq_true_eq]
  constructor
  · rintro ⟨ha, hb⟩ p
    cases p with
    | a => exact ha
    | b => exact hb
  · exact fun h => ⟨h .a, h .b⟩

/-- R173, R176: the condition for a NOTICE, all but the owner. -/
theorem noticeWanted_iff : noticeWanted s = true ↔ s.notice.pending ≠ 0
    ∧ (∀ p, ∀ x ∈ (s.queues.get p).entries, x.body ≠ .notice)
    ∧ s.notice.repeatTimer = none ∧ (s.relay = .relay ∨ s.relay = .fallback) := by
  simp only [noticeWanted, Bool.and_eq_true, decide_eq_true_eq, Bool.not_eq_true', noticeQueued_eq_false_iff,
    Option.isNone_iff_eq_none, relays_iff, and_assoc]

/-- R118: a full queue at the owner port takes no NOTICE. -/
theorem offerNotice_of_full {o : Owner} (ho : s.owner = some o) (hfull : 16 ≤ (s.queues.get o.port).occupancy) :
    offerNotice s = s := by
  obtain same | ⟨o', ho', placed⟩ := offerNotice_cases s
  · exact same
  · obtain rfl : o = o' := Option.some.inj (ho.symm.trans ho')
    rw [placed, place_of_full hfull]

end

/-- Settles O33: the offer is a placement at the owner port where the condition holds; each part that fails stops it. -/
theorem noticeIsOfferedToOwnerPort : Obligations.NoticeIsOfferedToOwnerPort := by
  refine fun s => ⟨fun o ho hpending htimer hrelay hnone hroom => ?offered, fun h => ?unchanged⟩
  case offered =>
    rw [offerNotice_of_wanted ho (noticeWanted_iff.mpr ⟨hpending, hnone, htimer, hrelay⟩)]
    exact place_of_room hroom
  case unchanged =>
    have unwanted (fails : ¬ noticeWanted s = true) : offerNotice s = s :=
      offerNotice_of_not_wanted (Bool.eq_false_iff.mpr fails)
    rw [noticeWanted_iff] at unwanted
    obtain howner | hpending | htimer | hbypass | hjoining | ⟨p, x, hx, hbody⟩ | ⟨o, ho, hfull⟩ := h
    · exact offerNotice_of_unowned howner
    · exact unwanted fun ⟨pending, _⟩ => pending hpending
    · exact unwanted fun ⟨_, _, stopped, _⟩ => htimer stopped
    · exact offerNotice_of_relays (congrArg RelayState.relays hbypass)
    · exact offerNotice_of_relays (congrArg RelayState.relays hjoining)
    · exact unwanted fun ⟨_, unqueued, _⟩ => unqueued p x hx hbody
    · exact offerNotice_of_full ho hfull

end Sys2Proof.Machine
end

section
/-! SUPPORT and proof of the records of the line read back (R181, R183, R184). -/

namespace Sys2Proof.Machine

/-- R181: the tag is the one field of a header sent in two bytes; every other byte stands for itself. -/
theorem headerOf_headerBytes (h : Header) : headerOf (headerBytes h) = h :=
  congrArg (fun tag => { h with tag := tag }) (half_bytes16 h.tag)

/-- R184: the two default actions are named values (R183) and the age limit takes two bytes; the rest stand for themselves. -/
theorem settingsOf_settingsBytes (x : Settings) : settingsOf (settingsBytes x) = x := by
  have named (y : DefaultAction) : (defaultOf (defaultByte y)).getD .pass = y := by
    rw [defaultOf_defaultByte, Option.getD_some]
  calc settingsOf (settingsBytes x)
      = { x with
          defaults := ⟨(defaultOf (defaultByte x.defaults.ab)).getD .pass, (defaultOf (defaultByte x.defaults.ba)).getD .pass⟩
          ageLimit := half (x.ageLimit.extractLsb' 8 8) (x.ageLimit.extractLsb' 0 8) } := rfl
    _ = x := by rw [named, named, half_bytes16]

/-- R183, R184: a record carries every field of its entry but the hit count, which is read as 0. -/
theorem entryOfRecord_entryBytes (x : Entry) : entryOfRecord (entryBytes x) = { x with hits := 0 } :=
  (carries_entryBytes x).entryOfRecord_eq

/-- Settles O53: headers, settings records and entry records, each by its own reading lemma. -/
theorem recordsReadBack : Obligations.RecordsReadBack :=
  ⟨headerOf_headerBytes, settingsOf_settingsBytes, entryOfRecord_entryBytes⟩

end Sys2Proof.Machine
end

section
/-! SUPPORT and proof of the request a payload's code byte names (R152, R182, R184). -/

namespace Sys2Proof.Machine

/-- R152, R182: a payload taken as it stands is the request of the handler that its code byte picks. -/
theorem exec_unknownRequest_of_handler {code : Byte} {ps : List Byte} {f : Handler} {e : Envelope} {s : State}
    (h : handlerOf code ps = f) : exec (.unknownRequest e code ps) s = requestRow f code e s :=
  congrArg (requestRow · code e s) h

/-- R183: selection byte 00H. -/
theorem selectHandler_without (without withIt : Byte → Handler) (x : Byte) :
    selectHandler without withIt [x, 0] = without x := rfl

/-- R183: selection byte 01H. -/
theorem selectHandler_with (without withIt : Byte → Handler) (x : Byte) :
    selectHandler without withIt [x, 1] = withIt x := rfl

/-- Settles O25: each row of R182's table executes the handler its code picks; the rows of SLOT-READ and STATS-READ are picked by the
selection byte as well. -/
theorem codeByteNamesTheRequest : Obligations.CodeByteNamesTheRequest := by
  intro e ps x s
  refine ⟨?ident, ?claim, ?renounce, ?settingsRead, ?settingsWrite, ?entryRead, ?entryWrite, ?entryClear, ?bankCopy, ?bankSwap,
    ?slotSetup, ?slotLoad, ?slotReadWithoutHold, ?slotReadWithHold, ?slotRelease, ?noticeAck, ?statsReadWithoutClear,
    ?statsReadWithClear, ?restart⟩
  case slotReadWithoutHold => exact exec_unknownRequest_of_handler (selectHandler_without slotReadPlainHandler slotReadHoldHandler x)
  case slotReadWithHold => exact exec_unknownRequest_of_handler (selectHandler_with slotReadPlainHandler slotReadHoldHandler x)
  case statsReadWithoutClear => exact exec_unknownRequest_of_handler (selectHandler_without statsPlainHandler statsClearHandler x)
  case statsReadWithClear => exact exec_unknownRequest_of_handler (selectHandler_with statsPlainHandler statsClearHandler x)
  all_goals exact exec_unknownRequest_of_handler rfl

end Sys2Proof.Machine
end

section
/-! SUPPORT and proofs of the machine's own statements (O1, O2): the commands that wait stand under every operation, and every row
answers a next state. -/

namespace Sys2Proof.Machine

/-! ## Queues, events, slots and the owner -/

/-- Operations one after another, each of which leaves the commands that wait. -/
theorem foldl_pending {α : Type} {f : State → α → State} (h : ∀ s x, (f s x).pending = s.pending) (l : List α) (s : State) :
    (l.foldl f s).pending = s.pending :=
  foldl_keeps State.pending h l s

section
variable (p : Port) (s : State)

@[simp] theorem place_pending (b : EntryBody) : (place p b s).pending = s.pending := by rw [place_frame]

@[simp] theorem offerNotice_pending : (offerNotice s).pending = s.pending := by rw [offerNotice_frame]

@[simp] theorem addEvent_pending (bit : BitVec 34) : (addEvent bit s).pending = s.pending := by rw [addEvent_frame]

@[simp] theorem lapse_pending (n : Fin 32) : (lapse n s).pending = s.pending := by rw [lapse_frame]

@[simp] theorem clearOwner_pending : (clearOwner s).pending = s.pending := by rw [clearOwner_frame]

@[simp] theorem expireLease_pending (o : Owner) : (expireLease o s).pending = s.pending := by rw [expireLease_frame]

@[simp] theorem settleExpiry_pending : (settleExpiry s).pending = s.pending := by
  unfold settleExpiry
  split
  · rw [enterFallback_frame]
  · rw [enterRelay_frame]

/-! ## The path of a frame -/

@[simp] theorem closeFlight_pending (cls : EndClass) : (closeFlight p cls s).pending = s.pending := by rw [closeFlight_frame]

@[simp] theorem pathByte_pending (b : Byte) (payload : Bool) : (pathByte p b payload s).pending = s.pending := by
  unfold pathByte
  split
  · rfl
  · dsimp only
    split <;> simp

@[simp] theorem inboxByte_pending (b : Byte) (payload : Bool) : (inboxByte p b payload s).pending = s.pending := by
  unfold inboxByte
  repeat' split
  all_goals simp

@[simp] theorem relayByte_pending (b : Byte) (payload : Bool) : (relayByte p b payload s).pending = s.pending :=
  (inboxByte_pending p _ b payload).trans (pathByte_pending p s b payload)

@[simp] theorem pollTest_pending (h : Header) (n : Fin 32) (x : AnswerSlot) : (pollTest p h n x s).1.pending = s.pending := by
  unfold pollTest reserve
  rw [place_frame]
  repeat' split
  all_goals rfl

@[simp] theorem entryDecision_pending (h : Header) (i : Fin 64) (e : Entry) :
    (entryDecision p h i e s).1.pending = s.pending := by
  unfold entryDecision
  split
  case h_7 =>
    split
    · rename_i n _ _ _ x _
      rw [← pollTest_pending p s h n x]
      split <;> simp only [*]
    · rfl
  case h_1 | h_2 | h_3 => rfl
  all_goals split <;> rfl

@[simp] theorem matchDecision_pending (h : Header) : (matchDecision p h s).1.pending = s.pending := by
  unfold matchDecision defaultDecision
  split
  · split <;> rfl
  · exact entryDecision_pending p _ h _ _

@[simp] theorem decideHeader_pending (h : Header) : (decideHeader p h s).1.pending = s.pending := by
  have matched : (if s.relay = .relay then matchDecision p h s else (s, plainDecision .forward .none)).1.pending = s.pending := by
    split
    · exact matchDecision_pending p s h
    · rfl
  unfold decideHeader mgmtDecision
  split
  case h_1 =>
    repeat' split
    all_goals rfl
  case h_2 | h_3 | h_4 => rfl
  all_goals exact matched

@[simp] theorem headerReport_pending (h : Header) (now : Wide) : (headerReport p h now s).pending = s.pending := by
  unfold headerReport holdHeader undecidedHeader
  split
  · dsimp only
    split <;> exact decideHeader_pending p s h
  · split <;> rfl

/-! ## A port's way out of the line, and back -/

@[simp] theorem joinCheck_pending : (joinCheck s).pending = s.pending := by
  unfold joinCheck
  split <;> rfl

@[simp] theorem leaveSynced_pending (ps : List Port) : (leaveSynced ps s).pending = s.pending := by
  rw [leaveSynced_eq, outOfLine_frame]
  exact foldl_pending (fun t p => by rw [cutFrame_frame]) ps s

@[simp] theorem enterFault_pending (ps : List Port) : (enterFault ps s).pending = s.pending :=
  calc (enterFault ps s).pending
      = (leaveSynced ps (ps.foldl (fun t p => setFault p t) s)).pending :=
        foldl_pending (fun t p => addEvent_pending t (portBit p)) ps _
    _ = (ps.foldl (fun t p => setFault p t) s).pending := leaveSynced_pending _ ps
    _ = s.pending := foldl_pending (f := fun t p => setFault p t) (fun _ _ => rfl) ps s

@[simp] theorem bucketAdd_pending (n : Nat) : (bucketAdd p n s).pending = s.pending := by
  unfold bucketAdd
  repeat' split
  all_goals simp

@[simp] theorem compareLimits_pending : (compareLimits s).pending = s.pending := by
  unfold compareLimits
  split
  · rfl
  · exact enterFault_pending s _

@[simp] theorem startSync_pending : (startSync p s).pending = s.pending := addEvent_pending _ _

@[simp] theorem releasePort_pending : (releasePort p s).pending = s.pending := by
  unfold releasePort
  split
  · exact startSync_pending p s
  · rfl

@[simp] theorem portSynced_pending : (portSynced p s).pending = s.pending :=
  (addEvent_pending _ _).trans (joinCheck_pending _)

@[simp] theorem coolDownEnd_pending : (coolDownEnd p s).pending = s.pending := addEvent_pending _ _

@[simp] theorem loseSignal_pending : (loseSignal p s).pending = s.pending := by
  unfold loseSignal
  dsimp only
  rw [addEvent_pending]
  split
  · exact leaveSynced_pending _ [p]
  · rfl

/-- R170: the restart sets no command aside. -/
@[simp] theorem settleRestart_pending : (settleRestart s).pending = s.pending := by
  unfold settleRestart
  split <;> rfl

/-! ## The outputs -/

@[simp] theorem startEntry_pending (b : EntryBody) : (startEntry p b s).pending = s.pending := by
  cases b with
  | answer | mreply | notice | assign => rfl
  | beacon n =>
    simp only [startEntry, moveBeacon]
    split <;> rfl

@[simp] theorem moveOut_pending (x : QEntry) (rest : List QEntry) : (moveOut p x rest s).pending = s.pending := by
  unfold moveOut
  rw [countInjected_frame]
  exact startEntry_pending p _ x.body

@[simp] theorem moveOutFrom_pending (x : Source) : (moveOutFrom x p s).pending = s.pending := by
  unfold moveOutFrom
  repeat' split
  all_goals simp

@[simp] theorem arbitrate_pending : (arbitrate p s).pending = s.pending := by
  unfold arbitrate startThrough
  repeat' split
  all_goals simp

@[simp] theorem sendNext_pending : (sendNext p s).pending = s.pending := by
  unfold sendNext sendPlace sendMark
  repeat' split
  all_goals rfl

@[simp] theorem transmit_pending : (transmit p s).pending = s.pending := by
  unfold transmit
  split
  · unfold sendInBypass
    dsimp only
    split <;> rfl
  · exact sendNext_pending p s
  all_goals exact (sendNext_pending p _).trans (arbitrate_pending p s)

/-! ## The ticks and the timers -/

@[simp] theorem ageOut_pending : (ageOut p s).pending = s.pending := by rw [ageOut_frame]

@[simp] theorem fireBeacon_pending (n : Fin 32) : (fireBeacon n s).pending = s.pending := by rw [fireBeacon_frame]

@[simp] theorem tick1ms_pending : (tick1ms s).pending = s.pending := by
  have fired (c : Nat) (due : List (Fin 32)) (t : State) (h : t.pending = s.pending) :
      (fireBeacons c due t).pending = s.pending := by
    rw [fireBeacons_frame]
    exact h
  refine tick1ms_stages (P := fun t => t.pending = s.pending) (Q := fun t => t.pending = s.pending) ?start (fun t k h => h)
    fired (fun t h => ?settled) (fun t h => ?aged) fired
  case start =>
    rw [tickCoolDown_frame, tickCoolDown_frame]
    rfl
  case settled =>
    rw [tickSettle_frame]
    exact h
  case aged =>
    rw [agedOut_frame]
    exact h

@[simp] theorem takeTick1_pending : (takeTick1 s).pending = s.pending := by
  unfold takeTick1
  split
  · exact (settleRestart_pending _).trans (tick1ms_pending _)
  · rfl

@[simp] theorem takeTick10_pending : (takeTick10 s).pending = s.pending := by
  unfold takeTick10
  split
  · rw [tick10ms_frame, tickHolds, foldl_lapse_frame]
  · rfl

@[simp] theorem takeTick100_pending : (takeTick100 s).pending = s.pending := by
  unfold takeTick100 tick100ms
  split
  · split
    · rfl
    · split
      · exact expireLease_pending _ _
      · rfl
  · rfl

@[simp] theorem advanceTime_pending : (advanceTime s).pending = s.pending :=
  calc (advanceTime s).pending
      = (takeTick10 (takeTick1 s)).pending := takeTick100_pending _
    _ = (takeTick1 s).pending := takeTick10_pending _
    _ = s.pending := takeTick1_pending s

/-! ## A running copy -/

@[simp] theorem completeCopy_pending : (completeCopy s).pending = s.pending := by
  unfold completeCopy fillHeldPlace
  split
  · rfl
  · split <;> rfl

@[simp] theorem advanceCopy_pending : (advanceCopy s).pending = s.pending := by
  unfold advanceCopy
  split
  · rfl
  · split
    · dsimp only
      split
      · exact completeCopy_pending _
      · rfl
    · exact completeCopy_pending s

end

/-! ## Requests -/

/-- R166: the slot counts are set anew without a look at the rest. -/
theorem clearGroup_pending (g : Group) (s : State) : (clearGroup g s).pending = s.pending := by
  have recounted (v : Vector Slot 32) : { s with slots := v }.pending = s.pending := rfl
  cases g with
  | portA | portB | dirAB | dirBA | proxy | agent => rfl
  | slots0 | slots1 => exact recounted _

/-- A request whose run and whose aftermath leave the commands that wait. -/
structure Handler.LeavesCommands (f : Handler) : Prop where
  run   : ∀ e s, (f.run e s).1.pending = s.pending
  after : ∀ a s, (f.after a s).pending = s.pending

theorem Handler.LeavesCommands.of_run {f : Handler} (hrun : ∀ e s, (f.run e s).1.pending = s.pending) (hafter : f.after = noAfter) :
    f.LeavesCommands :=
  ⟨hrun, fun a s => by rw [hafter, noAfter]⟩

theorem Handler.LeavesCommands.ite {c : Prop} [Decidable c] {f g : Handler} (hf : f.LeavesCommands) (hg : g.LeavesCommands) :
    (if c then f else g).LeavesCommands := by
  split
  · exact hf
  · exact hg

theorem leavesCommands_ident (ps : List Byte) : (identHandler ps).LeavesCommands := .of_run (fun _ _ => rfl) rfl

theorem leavesCommands_claim (ps : List Byte) : (claimHandler ps).LeavesCommands := by
  refine ⟨fun e s => ?run, fun a s => ?after⟩
  case run =>
    dsimp only [claimHandler, runClaim]
    repeat' split
    all_goals rfl
  case after =>
    dsimp only [claimHandler]
    split
    · exact offerNotice_pending s
    · rfl

theorem leavesCommands_renounce (ps : List Byte) : (renounceHandler ps).LeavesCommands := .of_run (fun _ => clearOwner_pending) rfl

theorem leavesCommands_settingsRead (ps : List Byte) : (settingsReadHandler ps).LeavesCommands := .of_run (fun _ _ => rfl) rfl

theorem leavesCommands_settingsWrite (ps : List Byte) : (settingsWriteHandler ps).LeavesCommands := by
  refine ⟨fun e s => ?run, fun a s => ?after⟩
  case run =>
    dsimp only [settingsWriteHandler, runSettingsWrite]
    split <;> rfl
  case after =>
    dsimp only [settingsWriteHandler]
    split
    · exact compareLimits_pending s
    · rfl

theorem leavesCommands_entryRead (ps : List Byte) : (entryReadHandler ps).LeavesCommands := by
  refine .of_run (fun e s => ?_) rfl
  dsimp only [entryReadHandler, runEntryRead]
  repeat' split
  all_goals rfl

theorem leavesCommands_entryWrite (ps : List Byte) : (entryWriteHandler ps).LeavesCommands := by
  refine .of_run (fun e s => ?_) rfl
  dsimp only [entryWriteHandler, runEntryWrite]
  repeat' split
  all_goals rfl

theorem leavesCommands_entryClear (ps : List Byte) : (entryClearHandler ps).LeavesCommands := by
  refine .of_run (fun e s => ?_) rfl
  dsimp only [entryClearHandler, runEntryClear]
  repeat' split
  all_goals rfl

theorem leavesCommands_bankCopy (ps : List Byte) : (bankCopyHandler ps).LeavesCommands := by
  refine .of_run (fun e s => ?_) rfl
  dsimp only [bankCopyHandler, runBankCopy]
  split <;> rfl

theorem leavesCommands_bankSwap (ps : List Byte) : (bankSwapHandler ps).LeavesCommands := by
  refine .of_run (fun e s => ?_) rfl
  dsimp only [bankSwapHandler, runBankSwap]
  repeat' split
  all_goals rfl

theorem leavesCommands_slotSetup (ps : List Byte) : (slotSetupHandler ps).LeavesCommands := by
  refine .of_run (fun e s => ?_) rfl
  dsimp only [slotSetupHandler, runSlotSetup]
  split
  · rfl
  · split
    · rfl
    · split
      · rfl
      · rw [setupSlot_eq]

theorem leavesCommands_slotLoad (ps : List Byte) : (slotLoadHandler ps).LeavesCommands := by
  refine .of_run (fun e s => ?_) rfl
  dsimp only [slotLoadHandler, runSlotLoad]
  repeat' split
  all_goals rfl

theorem leavesCommands_slotReadPlain (slot : Byte) : (slotReadPlainHandler slot).LeavesCommands := by
  refine .of_run (fun e s => ?_) rfl
  dsimp only [slotReadPlainHandler, runReadPlain]
  split <;> rfl

theorem leavesCommands_slotReadHold (slot : Byte) : (slotReadHoldHandler slot).LeavesCommands := by
  refine .of_run (fun e s => ?_) rfl
  dsimp only [slotReadHoldHandler, runReadHold]
  repeat' split
  all_goals rfl

theorem leavesCommands_slotRelease (ps : List Byte) : (slotReleaseHandler ps).LeavesCommands := by
  refine .of_run (fun e s => ?_) rfl
  dsimp only [slotReleaseHandler, runSlotRelease]
  repeat' split
  all_goals rfl

theorem leavesCommands_noticeAck (ps : List Byte) : (noticeAckHandler ps).LeavesCommands := by
  refine .of_run (fun e s => ?_) rfl
  dsimp only [noticeAckHandler, runNoticeAck]
  split <;> rfl

theorem runStats_pending (clear : Bool) (group : Byte) (s : State) : (runStats clear group s).1.pending = s.pending := by
  unfold runStats
  split
  · rfl
  · dsimp only
    split
    · exact clearGroup_pending _ s
    · rfl

theorem leavesCommands_statsPlain (group : Byte) : (statsPlainHandler group).LeavesCommands :=
  .of_run (fun _ => runStats_pending false group) rfl

theorem leavesCommands_statsClear (group : Byte) : (statsClearHandler group).LeavesCommands :=
  .of_run (fun _ => runStats_pending true group) rfl

theorem leavesCommands_restart (ps : List Byte) : (restartHandler ps).LeavesCommands := .of_run (fun _ _ => rfl) rfl

theorem leavesCommands_refused (st : Status) : (refusedHandler st).LeavesCommands := .of_run (fun _ _ => rfl) rfl

theorem leavesCommands_select {f g : Byte → Handler} (hf : ∀ x, (f x).LeavesCommands) (hg : ∀ x, (g x).LeavesCommands)
    (ps : List Byte) : (selectHandler f g ps).LeavesCommands := by
  unfold selectHandler
  split
  · exact .ite (hf _) (.ite (hg _) (leavesCommands_refused _))
  · exact leavesCommands_refused _

/-- R152, R182: whatever a payload says, the request it stands for leaves the commands that wait. -/
theorem leavesCommands_handlerOf (code : Byte) (ps : List Byte) : (handlerOf code ps).LeavesCommands :=
  .ite (leavesCommands_ident ps) <|
  .ite (leavesCommands_claim ps) <|
  .ite (leavesCommands_renounce ps) <|
  .ite (leavesCommands_settingsRead ps) <|
  .ite (leavesCommands_settingsWrite ps) <|
  .ite (leavesCommands_entryRead ps) <|
  .ite (leavesCommands_entryWrite ps) <|
  .ite (leavesCommands_entryClear ps) <|
  .ite (leavesCommands_bankCopy ps) <|
  .ite (leavesCommands_bankSwap ps) <|
  .ite (leavesCommands_slotSetup ps) <|
  .ite (leavesCommands_slotLoad ps) <|
  .ite (leavesCommands_select leavesCommands_slotReadPlain leavesCommands_slotReadHold ps) <|
  .ite (leavesCommands_slotRelease ps) <|
  .ite (leavesCommands_noticeAck ps) <|
  .ite (leavesCommands_select leavesCommands_statsPlain leavesCommands_statsClear ps) <|
  .ite (leavesCommands_restart ps) <|
  leavesCommands_refused _

/-! ## The agent -/

section
variable (p : Port) (s : State)

@[simp] theorem duplicate_pending (e : Envelope) (x : CacheEntry) : (duplicate e x s).pending = s.pending := by
  unfold duplicate placeReply
  dsimp only
  split
  · rfl
  · split
    · exact place_pending _ _ _
    · rfl

/-- R137: a request refused before its run changes nothing. -/
theorem runRequest_pending {f : Handler} (hf : f.LeavesCommands) (e : Envelope) :
    (runRequest f e s).1.pending = s.pending := by
  obtain same | ran := runRequest_cases f e s
  · rw [same]
  · rw [ran]
    exact hf.run e s

theorem agentRequest_pending {f : Handler} (hf : f.LeavesCommands) (code : Byte) (e : Envelope) :
    (agentRequest f code e s).pending = s.pending := by
  have answered : (f.after (runRequest f e s).2 (finishRequest e code (runRequest f e s).2 (runRequest f e s).1)).pending
      = s.pending := by
    rw [hf.after, finishRequest_frame]
    exact runRequest_pending s hf e
  unfold agentRequest examine
  split
  · rfl
  · split
    · rfl
    · split
      · rfl
      · split
        · exact duplicate_pending s e _
        · split
          · exact answered
          · rfl

@[simp] theorem assignEnd_pending (n : Byte) : (assignEnd p n s).pending = s.pending := by
  have offered (q : Port) (b : Byte) (t : State) : (offerAssign q b t).pending = t.pending := by
    unfold offerAssign
    split
    · rfl
    · split
      · exact place_pending q t _
      · rfl
  unfold assignEnd
  split
  · split
    · exact offered _ _ s
    · exact offered _ _ _
  · rfl

@[simp] theorem agentEnd_pending (cls : EndClass) : (agentEnd p cls s).pending = s.pending := by
  unfold agentEnd
  split
  · rfl
  · split
    · split
      · exact agentRequest_pending _ (leavesCommands_handlerOf _ _) _ _
      · exact assignEnd_pending p _ _
      · rfl
    · rfl

/-! ## The receivers -/

@[simp] theorem frameEnd_pending (cls : EndClass) (x : LineEvent) : (frameEnd p cls x s).pending = s.pending := by
  unfold frameEnd
  rw [joinCheck_pending, bucketAdd_pending, agentEnd_pending, closeFlight_pending, countEnd_eq]
  rfl

@[simp] theorem headerByte_pending (b : Byte) : (headerByte p b s).pending = s.pending := by
  unfold headerByte
  dsimp only
  split
  · rfl
  · split
    · split <;> simp
    · split
      · simp
      · rw [frameEnd_pending, lengthAtHeader_frame]
        simp

@[simp] theorem bodyByte_pending (b : Byte) : (bodyByte p b s).pending = s.pending := by
  unfold bodyByte
  dsimp only
  split
  · split <;> simp
  · exact frameEnd_pending p s _ _

@[simp] theorem delimit_pending (x : LineEvent) : (delimit p x s).pending = s.pending := by
  unfold delimit
  dsimp only
  split
  case h_1 => rfl
  case h_2 => exact bucketAdd_pending p _ _
  case h_3 => exact headerByte_pending p s _
  case h_5 => exact bodyByte_pending p s _
  all_goals exact frameEnd_pending p s _ _

@[simp] theorem synchronise_pending (x : LineEvent) : (synchronise p x s).pending = s.pending := by
  unfold synchronise
  repeat' split
  all_goals simp

@[simp] theorem receive_pending (x : LineEvent) : (receive p x s).pending = s.pending := by
  have counted : (countCodeError p x s).pending = s.pending := by rw [countCodeError_eq]
  unfold receive
  split
  · rfl
  · exact (synchronise_pending p _ x).trans counted
  · exact (delimit_pending p _ x).trans counted
  · exact counted

/-! ## Every command -/

theorem requestRow_completes {f : Handler} (hf : f.LeavesCommands) (code : Byte) (e : Envelope) :
    ∃ t, requestRow f code e s = .next t ∧ t.pending = s.pending :=
  exists_next_ite_of (fun _ => rfl) fun _ => (settleRestart_pending _).trans (agentRequest_pending s hf code e)

theorem receiveRow_completes (x : LineEvent) : ∃ t, receiveRow p x s = .next t ∧ t.pending = s.pending :=
  exists_next_ite_of (fun _ => rfl) fun _ => (settleRestart_pending _).trans (receive_pending p s x)

theorem execLeaseExpiry_completes : ∃ t, execLeaseExpiry s = .next t ∧ t.pending = s.pending := by
  unfold execLeaseExpiry
  split
  · exact ⟨s, rfl, rfl⟩
  · exact exists_next_ite_of (fun _ => rfl) fun _ => expireLease_pending s _

end

/-- Settles O2, by the row: where its condition fails a row answers the state as it stood, and where it holds the state its operation
leaves, with the commands that wait. -/
theorem everyCommandCompletes : Obligations.EveryCommandCompletes := by
  intro c s
  have guarded {g : Prop} [Decidable g] {u : State} (hu : u.pending = s.pending) :
      ∃ t, (if g then .next u else .next s : Host.Outcome State Fault Refusal) = .next t ∧ t.pending = s.pending :=
    exists_next_ite_of (fun _ => hu) fun _ => rfl
  have outOfReset {u : State} (hu : u.pending = s.pending) :
      ∃ t, (if s.resetPin then .next s else .next u : Host.Outcome State Fault Refusal) = .next t ∧ t.pending = s.pending :=
    exists_next_ite_of (fun _ => rfl) fun _ => hu
  cases c with
  | resetAssert => exact ⟨_, rfl, rfl⟩
  | resetRelease straps => exact guarded ((releasePort_pending .b _).trans (releasePort_pending .a _))
  | signalPresent p => exact exists_next_ite_of (fun _ => startSync_pending p _) fun _ => rfl
  | lossOfSignal p =>
    exact exists_next_ite_of (fun _ => (settleRestart_pending _).trans (loseSignal_pending p _)) fun _ => rfl
  | receiveSof | receiveDataByte | receiveEof | receiveAbort | receiveIdle | codeError => exact receiveRow_completes _ s _
  | coolDownExpiry p => exact guarded (coolDownEnd_pending p s)
  | joinSettleExpiry => exact guarded (settleExpiry_pending s)
  | throughFrameStart p => exact guarded rfl
  | transmitSymbol p => exact outOfReset ((settleRestart_pending _).trans (transmit_pending p s))
  | moveOutAnswer | moveOutMreply | moveOutNotice | moveOutAssign | moveOutBeacon =>
    exact ⟨_, rfl, moveOutFrom_pending _ s _⟩
  | tick1ms => exact outOfReset (takeTick1_pending s)
  | queueAgeOut p => exact outOfReset ((settleRestart_pending _).trans (ageOut_pending p s))
  | beaconExpiry n => exact guarded (fireBeacon_pending _ n)
  | tick10ms => exact outOfReset (takeTick10_pending s)
  | holdTimerExpiry n => exact outOfReset (lapse_pending s n)
  | noticeRepeatExpiry => exact guarded (offerNotice_pending _)
  | tick100ms => exact outOfReset (takeTick100_pending s)
  | leaseExpiry => exact execLeaseExpiry_completes s
  | bankCopyAdvance => exact outOfReset (advanceCopy_pending s)
  | bankCopyComplete => exact outOfReset (completeCopy_pending s)
  | ident e ps => exact requestRow_completes s (leavesCommands_ident ps) _ e
  | claim e ps => exact requestRow_completes s (leavesCommands_claim ps) _ e
  | renounce e ps => exact requestRow_completes s (leavesCommands_renounce ps) _ e
  | settingsRead e ps => exact requestRow_completes s (leavesCommands_settingsRead ps) _ e
  | settingsWrite e ps => exact requestRow_completes s (leavesCommands_settingsWrite ps) _ e
  | entryRead e ps => exact requestRow_completes s (leavesCommands_entryRead ps) _ e
  | entryWrite e ps => exact requestRow_completes s (leavesCommands_entryWrite ps) _ e
  | entryClear e ps => exact requestRow_completes s (leavesCommands_entryClear ps) _ e
  | bankCopy e ps => exact requestRow_completes s (leavesCommands_bankCopy ps) _ e
  | bankSwap e ps => exact requestRow_completes s (leavesCommands_bankSwap ps) _ e
  | slotSetup e ps => exact requestRow_completes s (leavesCommands_slotSetup ps) _ e
  | slotLoad e ps => exact requestRow_completes s (leavesCommands_slotLoad ps) _ e
  | slotReadWithoutHold e slot => exact requestRow_completes s (leavesCommands_slotReadPlain slot) _ e
  | slotReadWithHold e slot => exact requestRow_completes s (leavesCommands_slotReadHold slot) _ e
  | slotRelease e ps => exact requestRow_completes s (leavesCommands_slotRelease ps) _ e
  | noticeAck e ps => exact requestRow_completes s (leavesCommands_noticeAck ps) _ e
  | statsReadWithoutClear e group => exact requestRow_completes s (leavesCommands_statsPlain group) _ e
  | statsReadWithClear e group => exact requestRow_completes s (leavesCommands_statsClear group) _ e
  | restart e ps => exact requestRow_completes s (leavesCommands_restart ps) _ e
  | unknownRequest e code ps => exact requestRow_completes s (leavesCommands_handlerOf code ps) code e
  | assign p n => exact outOfReset (assignEnd_pending p s n)
  | restartBegin => exact guarded rfl
  | timestampCounterAdvance => exact outOfReset (advanceTime_pending s)

/-- Settles O1: the step is the front command's exec, by the two shapes of the queue. -/
theorem stepRunsFrontCommand : Obligations.StepRunsFrontCommand := ⟨fun _ _ _ => rfl, fun _ => rfl⟩

end Sys2Proof.Machine
end
